-- ==== Sys2Proof/Word.lean ====
section
/-! DEFINITION. The words of the Feistel round engine: the bus word, the block, the half, and the entries of the two
internal arrays. Bit 0 is the least significant bit (00_scope.md R15). -/

namespace Sys2Proof

/-- A 32-bit bus or command word (00_scope.md R11, 30_encoding.md R300). -/
abbrev Word := BitVec 32

/-- A 16-bit block, or any other 16-bit register field (00_scope.md R7, R12). -/
abbrev Block := BitVec 16

/-- One 8-bit half of a block (00_scope.md R12); also a character of the host's text codec. -/
abbrev Half := BitVec 8

/-- One 4-bit entry of BOXRAM (10_state.md R120). -/
abbrev BoxEntry := BitVec 4

end Sys2Proof
end

