-- ==== Sys2Proof/Config.lean ====
section
/-! DEFINITION. The implementation parameters of 00_scope.md section 3 and the free values, each an opaque constant that
no proof can evaluate. -/

namespace Sys2Proof.Config

/-- R_MAX, the number of KEYRAM entries (00_scope.md R8). -/
def roundsMax : Nat := 255

/-- BOX_MAX, the number of BOXRAM entries. The spec's default (00_scope.md R10, 92_eei_decisions.md D8).
DESIGN CHOICE, unsafe for an engine built with another depth: log 3. -/
def boxMax : Nat := 4096

/-- DSEQ_PHASE, the spec's decided value (00_scope.md R13, 41_sequence_sbox.md R451).
DESIGN CHOICE, unsafe for an engine of the other reading: log 2. -/
def dseqPhase : Nat := 0

/-- The size of the register window in bytes: 64 words (00_scope.md R11). -/
def windowBytes : Nat := 256

/-- REG_BASE divided by four; the platform's choice (00_scope.md R11). Free value, safe: log 4. -/
opaque regBaseWord : Nat

/-- REG_BASE, a word-aligned bus address (93_implementation_defined.md I3). Safe: log 4. -/
def regBase : Nat := 4 * regBaseWord

/-- The displacement of a bus address from REG_BASE; negative below the window (20_memory.md R201). -/
def displacement (addr : Nat) : Int := (addr : Int) - (regBase : Int)

/-! ### The key-derivation function, left OPEN (00_scope.md R14, 42_key_schedule.md R501); free, safe: log 1 -/

/-- The bytes of the key in MSG. Free value, safe: log 1. -/
opaque kdfKeyPart : Int → List (BitVec 8)

/-- The separator, if any, between key and prime. Free value, safe: log 1. -/
opaque kdfKeySeparator : List (BitVec 8)

/-- The bytes of the prime in MSG. Free value, safe: log 1. -/
opaque kdfPrimePart : Nat → List (BitVec 8)

/-- The separator, if any, between prime and index. Free value, safe: log 1. -/
opaque kdfPrimeSeparator : List (BitVec 8)

/-- The bytes of the round index in MSG. Free value, safe: log 1. -/
opaque kdfIndexPart : Nat → List (BitVec 8)

/-- H, a hash with a 256-bit digest that no source names. Free value, safe: log 1. -/
opaque hash256 : List (BitVec 8) → BitVec 256

/-- D2I's reading of the digest, an integer in [0, 2^256); its byte order is open. Free value, safe: log 1. -/
opaque digestReading : BitVec 256 → BitVec 256

/-- MSG: key, then prime, then index (42_key_schedule.md R501). -/
def kdfMessage (key : Int) (p i : Nat) : List (BitVec 8) :=
  kdfKeyPart key ++ kdfKeySeparator ++ kdfPrimePart p ++ kdfPrimeSeparator ++ kdfIndexPart i

/-- KS_KDF(key, p, i) = D2I(H(MSG(key, p, i))) (00_scope.md R14, 42_key_schedule.md R501). -/
def ksKdf (key : Int) (p i : Nat) : Nat := (digestReading (hash256 (kdfMessage key p i))).toNat

/-! ### Unspecified contents: one fresh value for each draw (93_implementation_defined.md I5) -/

/-- What a BOXRAM entry holds where the spec leaves it unspecified: draw, then index (10_state.md R120). Safe: log 11. -/
opaque unspecBoxEntry : Nat → Nat → BoxEntry

/-- What a KEYRAM entry holds where the spec leaves it unspecified: draw, then index (10_state.md R121). Safe: log 11. -/
opaque unspecKeyEntry : Nat → Nat → Block

/-- What L holds outside a perform step (10_state.md R123). Safe: log 13. -/
opaque unspecLeft : Nat → Half

/-- What R holds outside a perform step (10_state.md R123). Safe: log 13. -/
opaque unspecRight : Nat → Half

/-- What RC holds outside a perform step (10_state.md R123). Safe: log 13. -/
opaque unspecRoundCounter : Nat → BitVec 8

/-- What FV holds outside a perform step (10_state.md R123). Safe: log 13. -/
opaque unspecRoundValue : Nat → BitVec 10

end Sys2Proof.Config
end

