-- ==== Sys2Proof/Syntax.lean ====
section
/-! DEFINITION. The syntax of the machine: its commands (one constructor for each row of the opcode table), the reasons a
command word is refused, and the names of the host-addressable registers. -/

namespace Sys2Proof

/-- A command of 30_encoding.md R302. IDX is an operand of FROUND and RKEY alone (R303, R305; log 19); it is an unsigned
number, neither scaled nor sign-extended (R301). -/
inductive Instr where
  | nop
  | configure
  | encrypt
  | decrypt
  | fround (idx : Nat)
  | mix
  | sbox
  | digit
  | rkey (idx : Nat)
deriving DecidableEq, Repr

/-- Why a command word decodes to Bad (30_encoding.md R303, R304). -/
inductive BadWord where
  /-- OP in 0x9 to 0xF. -/
  | reservedOpcode
  /-- RSV0 is not 0. -/
  | reservedLow
  /-- RSV1 is not 0. -/
  | reservedHigh
deriving DecidableEq, Repr

/-- The registers of the window (10_state.md R100). -/
inductive Reg where
  | cmd
  | status
  | ctrl
  | prime
  | rounds
  | boxsize
  | seedLo
  | seedHi
  | din
  | dout
  | aprime
  | arounds
  | aboxsize
deriving DecidableEq, Repr

end Sys2Proof
end

