-- ==== Sys2Proof/Machine/State.lean ====
section
/-! DEFINITION. The state of the engine as plain data (10_state.md), the host's moves still to come, the reasons a step can
stop, and the state after reset (10_state.md section 8, 70_reset_and_hazards.md R800). -/

namespace Sys2Proof.Machine

/-- Why a step stops with a fault. -/
inductive Fault where
  /-- Raised by `step` for a host access outside the register window, which the FRE does not decode (20_memory.md R204).
  Safe: the model stops where the platform goes on. Log 8. -/
  | outsideWindow (off : Int)
deriving DecidableEq, Repr

/-- Why an instruction has no meaning. -/
inductive Refusal where
  /-- Raised by an arm of `exec` whose instruction has no meaning; every instruction of this model has one, so no step
  answers it. Safe. -/
  | notModelled (mnemonic : String)
deriving DecidableEq, Repr

/-- The result codes of 60_exceptions.md R701. -/
inductive ResultCode where
  | ok
  | primeInvalid
  | boxZero
  | boxTooBig
  | roundsInvalid
  | notConfigured
  | badCommand
  | indexRange
deriving DecidableEq, Repr

/-- The fields of STATUS (10_state.md R103). -/
structure Status where
  /-- Bit 0, BUSY. -/
  busy : Bool
  /-- Bit 1, DONE. -/
  done : Bool
  /-- Bit 2, CFG_VALID. -/
  cfgValid : Bool
  /-- Bit 3, OVR. -/
  ovr : Bool
  /-- Bits 7:4, RES. -/
  res : BitVec 4
deriving DecidableEq, Repr

/-- PEND, the pending-command record, valid exactly while BUSY = 1 (10_state.md R122). -/
structure Pend where
  /-- The whole command word. -/
  w : Word
  /-- DIN at issue. -/
  din : Block
  /-- PRIME at issue. -/
  sp : Block
  /-- ROUNDS at issue. -/
  sr : BitVec 8
  /-- BOXSIZE at issue. -/
  sb : Block
  /-- SEED_HI ++ SEED_LO at issue. -/
  sseed : BitVec 64
deriving DecidableEq, Repr

/-- The working registers of the block datapath (10_state.md R123). -/
structure Datapath where
  /-- L[7:0]. -/
  left : Half
  /-- R[7:0]. -/
  right : Half
  /-- RC[7:0], the round counter. -/
  rc : BitVec 8
  /-- FV[9:0], the round-function value. -/
  fv : BitVec 10
deriving DecidableEq, Repr

/-- One move of the machine or of the world around it (20_memory.md R210, 48_host_interface.md R680; log 6). An access
gives its displacement from REG_BASE (log 4) and its size in bytes. -/
inductive Turn where
  /-- The engine's turn. -/
  | engine
  /-- A bus master reads. -/
  | read (off : Int) (size : Nat)
  /-- A bus master writes. -/
  | write (off : Int) (size : Nat) (v : Word)
  /-- The platform asserts rst (70_reset_and_hazards.md R800). -/
  | assertReset
  /-- The platform releases rst. -/
  | releaseReset
deriving DecidableEq, Repr

/-- How the FRE answers an access (20_memory.md R204, 70_reset_and_hazards.md R800). -/
inductive Answer where
  /-- An accepted access. -/
  | accepted
  /-- The bus error response of 20_memory.md R204. -/
  | busError
  /-- An aligned 32-bit access while rst is asserted, which is not accepted (70_reset_and_hazards.md R800; log 25). -/
  | heldInReset
deriving DecidableEq, Repr

/-- One entry of the record of bus responses, which is the host's and not the FRE's (log 7). -/
structure Response where
  /-- Whether the access was a read. -/
  isRead : Bool
  /-- How it was answered. -/
  answer : Answer
  /-- The read data; 0 for a write. -/
  data : Word
deriving DecidableEq, Repr

/-- The state. Fields up to `rst` are the FRE's; the last three are the model's own (log 5, log 7, log 14). -/
structure State where
  /-- STATUS (10_state.md R103). -/
  status : Status
  /-- CTRL.IRQ_EN (10_state.md R104). -/
  irqEn : Bool
  /-- PRIME.P (10_state.md R105). -/
  prime : Block
  /-- ROUNDS.RND (10_state.md R106). -/
  rounds : BitVec 8
  /-- BOXSIZE.BSZ (10_state.md R107). -/
  boxsize : Block
  /-- SEED_LO (10_state.md R108). -/
  seedLo : Word
  /-- SEED_HI (10_state.md R108). -/
  seedHi : Word
  /-- DIN.D (10_state.md R110). -/
  din : Block
  /-- DOUT.Q (10_state.md R111). -/
  dout : Block
  /-- APRIME.AP (10_state.md R112). -/
  aprime : Block
  /-- AROUNDS.AR (10_state.md R112). -/
  arounds : BitVec 8
  /-- ABOXSIZE.AB (10_state.md R112). -/
  aboxsize : Block
  /-- BOXRAM, BOX_MAX entries, entry 0 first (10_state.md R120). -/
  boxram : List BoxEntry
  /-- KEYRAM, R_MAX entries, entry 0 first (10_state.md R121). -/
  keyram : List Block
  /-- PEND (10_state.md R122). -/
  pend : Pend
  /-- L, R, RC and FV (10_state.md R123; log 13). -/
  datapath : Datapath
  /-- The level of the reset input rst (70_reset_and_hazards.md R800). -/
  rst : Bool
  /-- The model's own: the moves still to come, first move first. -/
  script : List Turn
  /-- The model's own: the bus responses so far, newest first. -/
  responses : List Response
  /-- The model's own: how many free values have been drawn. -/
  freeCtr : Nat
deriving DecidableEq, Repr

/-- The machine right after reset (10_state.md section 8, 70_reset_and_hazards.md R800). The values of BOXRAM, KEYRAM, PEND,
the datapath and the free-value counter are DESIGN CHOICEs (unsafe): log 10, log 12, log 13, log 14. -/
def State.reset : State where
  status := { busy := false, done := false, cfgValid := false, ovr := false, res := 0#4 }
  irqEn := false
  prime := 0#16
  rounds := 0#8
  boxsize := 256#16
  seedLo := 0#32
  seedHi := 0#32
  din := 0#16
  dout := 0#16
  aprime := 0#16
  arounds := 0#8
  aboxsize := 0#16
  boxram := List.replicate Config.boxMax 0#4
  keyram := List.replicate Config.roundsMax 0#16
  pend := { w := 0#32, din := 0#16, sp := 0#16, sr := 0#8, sb := 0#16, sseed := 0#64 }
  datapath := { left := 0#8, right := 0#8, rc := 0#8, fv := 0#10 }
  rst := false
  script := []
  responses := []
  freeCtr := 0

end Sys2Proof.Machine
end

