-- ==== Sys2Proof/Machine/Flags.lean ====
section
/-! DEFINITION. STATUS as a register word, its write-one-to-clear bits, the result codes and the interrupt output
(10_state.md R103, R104, R124; 60_exceptions.md R701, R720). -/

namespace Sys2Proof.Machine

/-- The 4-bit code of a result (60_exceptions.md R701). -/
def ResultCode.bits : ResultCode → BitVec 4
  | .ok => 0#4
  | .primeInvalid => 1#4
  | .boxZero => 2#4
  | .boxTooBig => 3#4
  | .roundsInvalid => 4#4
  | .notConfigured => 5#4
  | .badCommand => 6#4
  | .indexRange => 7#4

/-- STATUS as it is read: RES, OVR, CFG_VALID, DONE and BUSY from bit 7 down to bit 0; bits 31:8 read 0
(10_state.md R103). -/
def Status.word (st : Status) : Word :=
  (st.res ++ BitVec.ofBool st.ovr ++ BitVec.ofBool st.cfgValid ++ BitVec.ofBool st.done
    ++ BitVec.ofBool st.busy).setWidth 32

/-- A write of STATUS clears DONE and OVR where the written bit is 1 and changes nothing else (10_state.md R101, R103). -/
def Status.writeOneToClear (st : Status) (v : Word) : Status :=
  { st with done := st.done && !v.getLsbD 1, ovr := st.ovr && !v.getLsbD 3 }

/-- STATUS after an issue: BUSY set and DONE cleared (40_command_config.md R400). -/
def Status.issued (st : Status) : Status := { st with busy := true, done := false }

/-- STATUS after a dropped command word (40_command_config.md R401). -/
def Status.dropped (st : Status) : Status := { st with ovr := true }

/-- STATUS after a completion (40_command_config.md R402). -/
def Status.completed (st : Status) (code : ResultCode) : Status :=
  { st with res := code.bits, busy := false, done := true }

/-- CFG_VALID written by CONFIGURE (40_command_config.md R405, R406). -/
def Status.withCfgValid (st : Status) (valid : Bool) : Status := { st with cfgValid := valid }

/-- The interrupt output, a level: `irq = CTRL.IRQ_EN AND STATUS.DONE` (10_state.md R124, 60_exceptions.md R720). -/
def State.irq (s : State) : Bool := s.irqEn && s.status.done

end Sys2Proof.Machine
end

