-- ==== Sys2Proof/Machine/Operands.lean ====
section
/-! DEFINITION. Operand assembly (30_encoding.md R301): every operand of a command comes from PEND, and the active
configuration from APRIME, AROUNDS and ABOXSIZE. The round index comes with the decoded command. -/

namespace Sys2Proof.Machine

/-- The 16-bit block operand of ENCRYPT and DECRYPT (10_state.md R110). -/
def State.blockOperand (s : State) : Block := s.pend.din

/-- The 16-bit operand of MIX, SBOX and DIGIT, unsigned (10_state.md R110, 30_encoding.md R301). -/
def State.valueOperand (s : State) : Nat := s.pend.din.toNat

/-- The half operand of FROUND: DIN[7:0] alone (30_encoding.md R301, 43_mixing_round.md R560). -/
def State.halfOperand (s : State) : Half := s.pend.din.extractLsb' 0 8

/-- p', the latched staged prime (40_command_config.md R404). -/
def State.stagedPrime (s : State) : Nat := s.pend.sp.toNat

/-- r', the latched staged round count (40_command_config.md R404). -/
def State.stagedRounds (s : State) : Nat := s.pend.sr.toNat

/-- b', the latched staged box size (40_command_config.md R404). -/
def State.stagedBox (s : State) : Nat := s.pend.sb.toNat

/-- s', the latched staged seed, the one signed operand (40_command_config.md R404, 10_state.md R108). -/
def State.stagedSeed (s : State) : Int := s.pend.sseed.toInt

/-- p, the active prime (10_state.md R112). -/
def State.activePrime (s : State) : Nat := s.aprime.toNat

/-- r, the active round count (10_state.md R112). -/
def State.activeRounds (s : State) : Nat := s.arounds.toNat

/-- b, the active box size (10_state.md R112). -/
def State.activeBox (s : State) : Nat := s.aboxsize.toNat

end Sys2Proof.Machine
end

