-- ==== Sys2Proof/Machine/Ops.lean ====
section
/-! DEFINITION. The named operations over the registers and the internal arrays: completion (what stands for taking an
exception) with the acknowledgement beside it, issue and drop, register reads and writes, array fills and reads, and the
reset event. -/

namespace Sys2Proof.Machine

/-! ### The internal arrays (10_state.md R120, R121) -/

/-- `n` entries, entry `k` of them being `f (start + k)`. -/
def fillFrom {w : Nat} (f : Nat → BitVec w) (start : Nat) : Nat → List (BitVec w)
  | 0 => []
  | n + 1 => f start :: fillFrom f (start + 1) n

/-- An array of `n` entries whose entry `i` is `f i`. -/
def fillArray {w : Nat} (n : Nat) (f : Nat → BitVec w) : List (BitVec w) := fillFrom f 0 n

/-- Entry `i` of an array as an unsigned number. No command reads past an array's end in a state that meets
`State.Inv` (10_state.md R120, R121); elsewhere the read is 0 (log 27). -/
def readArray {w : Nat} (ram : List (BitVec w)) (i : Nat) : Nat := (ram.getD i 0#w).toNat

/-- BOXRAM with `f j` at every index j below `b`, and unspecified contents above (10_state.md R120;
93_implementation_defined.md I5; log 11). -/
def boxContents (draw b : Nat) (f : Nat → BoxEntry) : List BoxEntry :=
  fillArray Config.boxMax (fun j => if j < b then f j else Config.unspecBoxEntry draw j)

/-- KEYRAM with `f i` at every index i below `r`, and unspecified contents above (10_state.md R121;
93_implementation_defined.md I5; log 11). -/
def keyContents (draw r : Nat) (f : Nat → Block) : List Block :=
  fillArray Config.roundsMax (fun i => if i < r then f i else Config.unspecKeyEntry draw i)

/-- Unspecified contents of the working registers (10_state.md R123; log 13). -/
def unspecDatapath (draw : Nat) : Datapath where
  left := Config.unspecLeft draw
  right := Config.unspecRight draw
  rc := Config.unspecRoundCounter draw
  fv := Config.unspecRoundValue draw

/-! ### Completion: what stands for exception entry and return (60_exceptions.md R741, R742) -/

/-- The completion of a command (40_command_config.md R402, 60_exceptions.md R741): DOUT takes the value of an OK result
that has one; RES, BUSY and DONE are written; nothing else changes. -/
def State.complete (s : State) (code : ResultCode) (out : Option Block) : State :=
  { s with
    dout := if code = .ok then out.getD s.dout else s.dout
    status := s.status.completed code }

/-- `raise C(info)`: the command ends with a result code and none of its success writes (60_exceptions.md R700). -/
def State.raise (s : State) (code : ResultCode) : State := s.complete code none

/-- The acknowledgement of 60_exceptions.md R742: a host's write of STATUS (10_state.md R103). -/
def State.ackStatus (s : State) (v : Word) : State := { s with status := s.status.writeOneToClear v }

/-- A command that needs an active configuration: NOT_CONFIGURED and nothing else while CFG_VALID = 0, and its own rule
otherwise (40_command_config.md R408). -/
def State.whenConfigured (s : State) (own : State) : State :=
  if s.status.cfgValid then own else s.raise .notConfigured

/-- The end of a block's perform step: the working registers are no state between commands (10_state.md R123; log 13). -/
def State.releaseDatapath (s : State) : State :=
  { s with datapath := unspecDatapath s.freeCtr, freeCtr := s.freeCtr + 1 }

/-! ### Issue and drop (40_command_config.md R400, R401) -/

/-- The issue of word `w`: PEND latches every operand, BUSY is set and DONE cleared (40_command_config.md R400). -/
def State.issue (s : State) (w : Word) : State :=
  { s with
    pend := { w := w, din := s.din, sp := s.prime, sr := s.rounds, sb := s.boxsize, sseed := s.seedHi ++ s.seedLo }
    status := s.status.issued }

/-- A command word written while BUSY = 1 is dropped (40_command_config.md R401). -/
def State.drop (s : State) : State := { s with status := s.status.dropped }

/-- A host's write of CMD (10_state.md R102). -/
def State.writeCmd (s : State) (w : Word) : State := if s.status.busy then s.drop else s.issue w

/-! ### The register window (10_state.md R100, R101) -/

/-- The byte offset of a register (10_state.md R100). -/
def regOffset : Reg → Nat
  | .cmd => 0x00
  | .status => 0x04
  | .ctrl => 0x08
  | .prime => 0x0C
  | .rounds => 0x10
  | .boxsize => 0x14
  | .seedLo => 0x18
  | .seedHi => 0x1C
  | .din => 0x20
  | .dout => 0x24
  | .aprime => 0x28
  | .arounds => 0x2C
  | .aboxsize => 0x30

/-- The register at an aligned offset of the window; none at a reserved one (10_state.md R100). -/
def regAt (off : Nat) : Option Reg :=
  match off with
  | 0x00 => some .cmd
  | 0x04 => some .status
  | 0x08 => some .ctrl
  | 0x0C => some .prime
  | 0x10 => some .rounds
  | 0x14 => some .boxsize
  | 0x18 => some .seedLo
  | 0x1C => some .seedHi
  | 0x20 => some .din
  | 0x24 => some .dout
  | 0x28 => some .aprime
  | 0x2C => some .arounds
  | 0x30 => some .aboxsize
  | _ => none

/-- A register's value as the bus reads it: reserved bits read 0, CMD reads 0 (10_state.md R101 to R112). -/
def State.readReg (s : State) : Reg → Word
  | .cmd => 0#32
  | .status => s.status.word
  | .ctrl => (BitVec.ofBool s.irqEn).setWidth 32
  | .prime => s.prime.setWidth 32
  | .rounds => s.rounds.setWidth 32
  | .boxsize => s.boxsize.setWidth 32
  | .seedLo => s.seedLo
  | .seedHi => s.seedHi
  | .din => s.din.setWidth 32
  | .dout => s.dout.setWidth 32
  | .aprime => s.aprime.setWidth 32
  | .arounds => s.arounds.setWidth 32
  | .aboxsize => s.aboxsize.setWidth 32

/-- The write semantics of a register: defined fields of RW registers store the written bits, CMD issues or drops,
STATUS clears, RO registers ignore (10_state.md R101 to R112). -/
def State.writeReg (s : State) (r : Reg) (v : Word) : State :=
  match r with
  | .cmd => s.writeCmd v
  | .status => s.ackStatus v
  | .ctrl => { s with irqEn := v.getLsbD 0 }
  | .prime => { s with prime := v.setWidth 16 }
  | .rounds => { s with rounds := v.setWidth 8 }
  | .boxsize => { s with boxsize := v.setWidth 16 }
  | .seedLo => { s with seedLo := v }
  | .seedHi => { s with seedHi := v }
  | .din => { s with din := v.setWidth 16 }
  | .dout => s
  | .aprime => s
  | .arounds => s
  | .aboxsize => s

/-- A read at an aligned offset of the window: reserved offsets read 0 (10_state.md R100). -/
def State.readOffset (s : State) (off : Nat) : Word :=
  match regAt off with
  | some r => s.readReg r
  | none => 0#32

/-- A write at an aligned offset of the window: reserved offsets ignore it (10_state.md R100). -/
def State.writeOffset (s : State) (off : Nat) (v : Word) : State :=
  match regAt off with
  | some r => s.writeReg r v
  | none => s

/-! ### Reset (70_reset_and_hazards.md R800) -/

/-- The assertion of rst: every register gets its reset value, the pending command is discarded, and BOXRAM, KEYRAM and the
working registers become unspecified (log 11, log 13). The script and the record of responses are the host's and stay
(log 17). -/
def State.assertReset (s : State) : State :=
  { State.reset with
    boxram := boxContents s.freeCtr 0 (fun _ => 0#4)
    keyram := keyContents s.freeCtr 0 (fun _ => 0#16)
    datapath := unspecDatapath s.freeCtr
    rst := true
    script := s.script
    responses := s.responses
    freeCtr := s.freeCtr + 1 }

/-- The release of rst: the engine and the bus are live again (log 9). -/
def State.releaseReset (s : State) : State := { s with rst := false }

end Sys2Proof.Machine
end

