-- ==== Sys2Proof/Machine/Bus.lean ====
section
/-! DEFINITION. The host's accesses to the register window (20_memory.md R201, R204; 60_exceptions.md R740). -/

namespace Sys2Proof.Machine

/-- The displacement lies in the window, which the FRE decodes (20_memory.md R204; log 26). -/
def inWindow (off : Int) : Bool := decide (0 ≤ off) && decide (off < (Config.windowBytes : Int))

/-- Only aligned 32-bit accesses are accepted (20_memory.md R204; log 18). -/
def acceptable (off : Int) (size : Nat) : Bool := decide (off % 4 = 0) && decide (size = 4)

/-- The record of one more response (log 7). -/
def State.respond (s : State) (r : Response) : State := { s with responses := r :: s.responses }

/-- A host read (20_memory.md R201, R204, R206). An access that R204 does not accept is a bus error in reset too
(60_exceptions.md R740); an accepted shape is held while rst is asserted (70_reset_and_hazards.md R800; log 25). -/
def State.busRead (s : State) (off : Int) (size : Nat) : Host.Outcome State Fault Refusal :=
  if inWindow off = false then .fault (.outsideWindow off)
  else if acceptable off size = false then .next (s.respond { isRead := true, answer := .busError, data := 0#32 })
  else if s.rst then .next (s.respond { isRead := true, answer := .heldInReset, data := 0#32 })
  else .next (s.respond { isRead := true, answer := .accepted, data := s.readOffset off.toNat })

/-- A host write (20_memory.md R201, R204), refused as `busRead` refuses a read (60_exceptions.md R740,
70_reset_and_hazards.md R800; log 25). -/
def State.busWrite (s : State) (off : Int) (size : Nat) (v : Word) : Host.Outcome State Fault Refusal :=
  if inWindow off = false then .fault (.outsideWindow off)
  else if acceptable off size = false then .next (s.respond { isRead := false, answer := .busError, data := 0#32 })
  else if s.rst then .next (s.respond { isRead := false, answer := .heldInReset, data := 0#32 })
  else .next ((s.writeOffset off.toNat v).respond { isRead := false, answer := .accepted, data := 0#32 })

end Sys2Proof.Machine
end

