-- ==== Sys2Proof/WellFormed.lean ====
section
/-! DEFINITION. Which terms of Instr stand for a command word: the round index is an 8-bit field (30_encoding.md R300). -/

namespace Sys2Proof

/-- A command is well formed when its round index, where it has one, fits IDX[15:8] (30_encoding.md R300, R301). -/
def Instr.wellFormed : Instr → Bool
  | .nop => true
  | .configure => true
  | .encrypt => true
  | .decrypt => true
  | .fround idx => decide (idx < 256)
  | .mix => true
  | .sbox => true
  | .digit => true
  | .rkey idx => decide (idx < 256)

end Sys2Proof
end

