-- ==== Sys2Proof/Decode.lean ====
section
/-! DEFINITION. The decoder of 30_encoding.md R303, total on all words and rejecting by name, and the encoder of
R300, R302 and R308 after it. -/

namespace Sys2Proof

/-- OP = w[3:0] (30_encoding.md R300). -/
def opField (w : Word) : BitVec 4 := w.extractLsb' 0 4

/-- RSV0 = w[7:4] (30_encoding.md R300). -/
def rsv0Field (w : Word) : BitVec 4 := w.extractLsb' 4 4

/-- IDX = w[15:8] (30_encoding.md R300). -/
def idxField (w : Word) : BitVec 8 := w.extractLsb' 8 8

/-- RSV1 = w[31:16] (30_encoding.md R300). -/
def rsv1Field (w : Word) : BitVec 16 := w.extractLsb' 16 16

/-- The opcode map (30_encoding.md R302, R303), for a word whose reserved fields are 0. -/
def decodeOpcode (op : Nat) (idx : Nat) : Except BadWord Instr :=
  match op with
  | 0 => .ok .nop
  | 1 => .ok .configure
  | 2 => .ok .encrypt
  | 3 => .ok .decrypt
  | 4 => .ok (.fround idx)
  | 5 => .ok .mix
  | 6 => .ok .sbox
  | 7 => .ok .digit
  | 8 => .ok (.rkey idx)
  | _ => .error .reservedOpcode

/-- The decoder (30_encoding.md R303): total on all 2^32 words. -/
def decode (w : Word) : Except BadWord Instr :=
  if rsv1Field w ≠ 0#16 then .error .reservedHigh
  else if rsv0Field w ≠ 0#4 then .error .reservedLow
  else decodeOpcode (opField w).toNat (idxField w).toNat

/-- The opcode of a command (30_encoding.md R302). -/
def Instr.opcode : Instr → Nat
  | .nop => 0
  | .configure => 1
  | .encrypt => 2
  | .decrypt => 3
  | .fround _ => 4
  | .mix => 5
  | .sbox => 6
  | .digit => 7
  | .rkey _ => 8

/-- The IDX field of a command's encoding: 0 where the command ignores it (30_encoding.md R306, R308). -/
def Instr.index : Instr → Nat
  | .nop => 0
  | .configure => 0
  | .encrypt => 0
  | .decrypt => 0
  | .fround idx => idx
  | .mix => 0
  | .sbox => 0
  | .digit => 0
  | .rkey idx => idx

/-- The command word of a well-formed command: `(i << 8) | OP` (30_encoding.md R306, R308). -/
def encode (i : Instr) : Word := (BitVec.ofNat 32 i.index <<< 8) ||| BitVec.ofNat 32 i.opcode

/-! ### Byte lanes (20_memory.md R202): little-endian, unobservable on the bus (log 23) -/

/-- The byte lanes of a bus word, lane 0 first. -/
def lanesOfWord (w : Word) : List (BitVec 8) :=
  [w.extractLsb' 0 8, w.extractLsb' 8 8, w.extractLsb' 16 8, w.extractLsb' 24 8]

/-- The bus word that four byte lanes carry, lane 0 first; no word where there are not four. -/
def wordOfLanes : List (BitVec 8) → Option Word
  | [b0, b1, b2, b3] => some (b3 ++ b2 ++ b1 ++ b0)
  | _ => none

/-- The decoder on bytes: one word of four lanes, decoded by `decode`. -/
def decodeLanes (bytes : List (BitVec 8)) : Option Instr :=
  match wordOfLanes bytes with
  | none => none
  | some w => (decode w).toOption

/-- The command word whose low `nbits` bits are `w` and whose other bits are 0. -/
def tableWord (nbits w : Nat) : Word := BitVec.ofNat 32 (w % 2 ^ nbits)

/-- What the decoder reads from the instruction whose bits are `w`, laid out in its byte lanes. -/
def decodeTableWord (nbits w : Nat) : Option Instr := decodeLanes (lanesOfWord (tableWord nbits w))

end Sys2Proof
end

