-- ==== Sys2Proof/Machine/KeySchedule.lean ====
section
/-! DEFINITION. The round-key schedule and the command RKEY (42_key_schedule.md). -/

namespace Sys2Proof.Machine

/-- The keys from round `i` on, `n` of them, with running key `cur` (42_key_schedule.md R500). -/
def keysFrom (kdf : Int → Nat → Nat → Nat) (p : Nat) (cur : Int) (i : Nat) : Nat → List Nat
  | 0 => []
  | n + 1 => (kdf cur p i % p) :: keysFrom kdf p ((kdf cur p i % p : Nat) : Int) (i + 1) n

/-- `KeySchedule(s, p, r)` for a given KS_KDF (42_key_schedule.md R500). -/
def keySchedule (kdf : Int → Nat → Nat → Nat) (seed : Int) (p r : Nat) : List Nat := keysFrom kdf p seed 0 r

/-- `rk(i)`, the round key of the active configuration: KEYRAM[i] (42_key_schedule.md R500, R505). -/
def State.roundKey (s : State) (i : Nat) : Nat := readArray s.keyram i

/-- RKEY (42_key_schedule.md R510). -/
def execRkey (idx : Nat) (s : State) : Host.Outcome State Fault Refusal :=
  .next (s.whenConfigured
    (if idx ≥ s.activeRounds then s.raise .indexRange
     else s.complete .ok (some (BitVec.ofNat 16 (s.roundKey idx)))))

end Sys2Proof.Machine
end

