-- ==== Sys2Proof/Machine/Sequence.lean ====
section
/-! DEFINITION. The decimal sequence, the substitution box, and the commands SBOX and DIGIT (41_sequence_sbox.md). -/

namespace Sys2Proof.Machine

/-- `rem(p, k)`, the remainder of the long division of 1/p held before step k (41_sequence_sbox.md R452). -/
def remainder (p : Nat) : Nat → Nat
  | 0 => 1
  | k + 1 => (remainder p k * 10) % p

/-- `digit(p, j)` under a DSEQ_PHASE (41_sequence_sbox.md R451, R452). -/
def digitOf (phase p j : Nat) : Nat := (remainder p (j + phase) * 10) / p

/-- `digit(p, j)` of the active prime, under the machine's DSEQ_PHASE (log 2). -/
def State.digitAt (s : State) (j : Nat) : Nat := digitOf Config.dseqPhase s.activePrime j

/-- `sbox(v) = BOXRAM[v mod b]` (41_sequence_sbox.md R456). -/
def State.boxLookup (s : State) (v : Nat) : Nat := readArray s.boxram (v % s.activeBox)

/-- SBOX (41_sequence_sbox.md R460). -/
def execSbox (s : State) : Host.Outcome State Fault Refusal :=
  .next (s.whenConfigured (s.complete .ok (some (BitVec.ofNat 16 (s.boxLookup s.valueOperand)))))

/-- DIGIT (41_sequence_sbox.md R461). -/
def execDigit (s : State) : Host.Outcome State Fault Refusal :=
  .next (s.whenConfigured
    (if s.valueOperand ≥ s.activePrime - 1 then s.raise .indexRange
     else s.complete .ok (some (BitVec.ofNat 16 (s.digitAt s.valueOperand)))))

end Sys2Proof.Machine
end

