-- ==== Sys2Proof/Machine/Mixing.lean ====
section
/-! DEFINITION. The mixing function, the Feistel round function, and the commands MIX and FROUND (43_mixing_round.md).
Every stage is exact on unbounded naturals and then reduced (R554). -/

namespace Sys2Proof.Machine

/-- Stage 1: `(x^3 + 7*x + 11) mod p` (43_mixing_round.md R550). -/
def mixStage1 (p x : Nat) : Nat := (x ^ 3 + 7 * x + 11) % p

/-- Stage 3: `(d^3 + 5*d + 13) mod p` (43_mixing_round.md R550, R552). -/
def mixStage3 (p d : Nat) : Nat := (d ^ 3 + 5 * d + 13) % p

/-- `Mix(x)` (43_mixing_round.md R550). -/
def State.mixValue (s : State) (x : Nat) : Nat := mixStage3 s.activePrime (s.boxLookup (mixStage1 s.activePrime x))

/-- `Fr(h, i) = Mix((h + rk(i)) mod p)` (43_mixing_round.md R556), the one round function of both directions (R557). -/
def State.roundValue (s : State) (h : Half) (i : Nat) : Nat := s.mixValue ((h.toNat + s.roundKey i) % s.activePrime)

/-- FROUND (43_mixing_round.md R560): the full value, not reduced to 8 bits. -/
def execFround (idx : Nat) (s : State) : Host.Outcome State Fault Refusal :=
  .next (s.whenConfigured
    (if idx ≥ s.activeRounds then s.raise .indexRange
     else s.complete .ok (some (BitVec.ofNat 16 (s.roundValue s.halfOperand idx)))))

/-- MIX (43_mixing_round.md R561). -/
def execMix (s : State) : Host.Outcome State Fault Refusal :=
  .next (s.whenConfigured (s.complete .ok (some (BitVec.ofNat 16 (s.mixValue s.valueOperand)))))

end Sys2Proof.Machine
end

