-- ==== Sys2Proof/Machine/BlockCipher.lean ====
section
/-! DEFINITION. The 16-bit block datapath, the round controller, and the commands ENCRYPT and DECRYPT
(44_block_cipher.md). -/

namespace Sys2Proof.Machine

/-- The block load: L is the high byte and R the low byte (44_block_cipher.md R600, 20_memory.md R203). -/
def loadBlock (d : Datapath) (blk : Block) : Datapath :=
  { d with left := blk.extractLsb' 8 8, right := blk.extractLsb' 0 8 }

/-- The output assembly `(L << 8) | R` (44_block_cipher.md R605). -/
def assembleBlock (d : Datapath) : Block := d.left ++ d.right

/-- FV holds a round-function value in 10 bits (10_state.md R123, 43_mixing_round.md R551). -/
def roundRegister (v : Nat) : BitVec 10 := BitVec.ofNat 10 v

/-- One encryption round step at round counter `rc` (44_block_cipher.md R601): only FV[7:0] enters the XOR (R606). -/
def encRound (fr : Half → Nat → Nat) (rc : Nat) (d : Datapath) : Datapath where
  left := d.right
  right := d.left ^^^ (roundRegister (fr d.right rc)).extractLsb' 0 8
  rc := BitVec.ofNat 8 rc
  fv := roundRegister (fr d.right rc)

/-- One decryption round step at round counter `rc` (44_block_cipher.md R603). -/
def decRound (fr : Half → Nat → Nat) (rc : Nat) (d : Datapath) : Datapath where
  left := d.right ^^^ (roundRegister (fr d.left rc)).extractLsb' 0 8
  right := d.left
  rc := BitVec.ofNat 8 rc
  fv := roundRegister (fr d.left rc)

/-- The encryption controller from round counter `rc` on, `n` rounds, counting up (44_block_cipher.md R602). -/
def encRounds (fr : Half → Nat → Nat) (rc : Nat) : Nat → Datapath → Datapath
  | 0, d => d
  | n + 1, d => encRounds fr (rc + 1) n (encRound fr rc d)

/-- The decryption controller for round counters n − 1 down to 0 (44_block_cipher.md R604). -/
def decRounds (fr : Half → Nat → Nat) : Nat → Datapath → Datapath
  | 0, d => d
  | n + 1, d => decRounds fr n (decRound fr n d)

/-- `Enc(blk)` under the active configuration (44_block_cipher.md R602, R612). -/
def State.encBlock (s : State) (blk : Block) : Block :=
  assembleBlock (encRounds s.roundValue 0 s.activeRounds (loadBlock s.datapath blk))

/-- `Dec(blk)` under the active configuration (44_block_cipher.md R604, R612). -/
def State.decBlock (s : State) (blk : Block) : Block :=
  assembleBlock (decRounds s.roundValue s.activeRounds (loadBlock s.datapath blk))

/-- ENCRYPT (44_block_cipher.md R610). -/
def execEncrypt (s : State) : Host.Outcome State Fault Refusal :=
  .next (s.whenConfigured (s.complete .ok (some (s.encBlock s.blockOperand))).releaseDatapath)

/-- DECRYPT (44_block_cipher.md R611). -/
def execDecrypt (s : State) : Host.Outcome State Fault Refusal :=
  .next (s.whenConfigured (s.complete .ok (some (s.decBlock s.blockOperand))).releaseDatapath)

end Sys2Proof.Machine
end

