-- ==== Sys2Proof/Machine/Command.lean ====
section
/-! DEFINITION. NOP and CONFIGURE (40_command_config.md R403 to R410). -/

namespace Sys2Proof.Machine

/-- No divisor of `n` from `d` up to the square root of `n`, trying at most `fuel` candidates. -/
def noDivisorFrom (n : Nat) : Nat → Nat → Bool
  | 0, _ => true
  | fuel + 1, d => if n < d * d then true else if n % d = 0 then false else noDivisorFrom n fuel (d + 1)

/-- `is_prime(n)` (40_command_config.md R409), by trial division; the rule leaves the method free and fixes the verdict
(log 22). -/
def isPrime (n : Nat) : Bool := decide (2 ≤ n) && noDivisorFrom n n 2

/-- The checks of CONFIGURE in their order; OK when all pass (40_command_config.md R404). -/
def checkConfig (boxMax p b r : Nat) : ResultCode :=
  if p < 5 ∨ isPrime p = false then .primeInvalid
  else if b = 0 then .boxZero
  else if b > p - 1 ∨ b > boxMax then .boxTooBig
  else if r = 0 then .roundsInvalid
  else .ok

/-- `succeed(p', r', b', s')` (40_command_config.md R405). -/
def State.succeedConfigure (s : State) (p r b : Nat) (seed : Int) : State :=
  State.complete
    { s with
      aprime := BitVec.ofNat 16 p
      arounds := BitVec.ofNat 8 r
      aboxsize := BitVec.ofNat 16 b
      boxram := boxContents s.freeCtr b (fun j => BitVec.ofNat 4 (digitOf Config.dseqPhase p j))
      keyram := keyContents s.freeCtr r (fun i => BitVec.ofNat 16 ((keySchedule Config.ksKdf seed p r).getD i 0))
      status := s.status.withCfgValid true
      freeCtr := s.freeCtr + 1 }
    .ok none

/-- `fail(code)` (40_command_config.md R406): the active configuration is discarded and the arrays become unspecified
(log 11). -/
def State.failConfigure (s : State) (code : ResultCode) : State :=
  State.raise
    { s with
      aprime := 0#16
      arounds := 0#8
      aboxsize := 0#16
      boxram := boxContents s.freeCtr 0 (fun _ => 0#4)
      keyram := keyContents s.freeCtr 0 (fun _ => 0#16)
      status := s.status.withCfgValid false
      freeCtr := s.freeCtr + 1 }
    code

/-- NOP (40_command_config.md R403). -/
def execNop (s : State) : Host.Outcome State Fault Refusal := .next (s.complete .ok none)

/-- CONFIGURE (40_command_config.md R404, R405, R406). -/
def execConfigure (s : State) : Host.Outcome State Fault Refusal :=
  .next (match checkConfig Config.boxMax s.stagedPrime s.stagedBox s.stagedRounds with
    | .ok => s.succeedConfigure s.stagedPrime s.stagedRounds s.stagedBox s.stagedSeed
    | code => s.failConfigure code)

end Sys2Proof.Machine
end

