-- ==== Sys2Proof/Machine/Dispatch.lean ====
section
/-! DEFINITION. The meaning of each command: the perform step of 40_command_config.md R402 and R403. -/

namespace Sys2Proof.Machine

-- One arm per constructor of Instr.
def exec (i : Instr) (s : State) : Host.Outcome State Fault Refusal :=
  match i with
  | .nop => Sys2Proof.Machine.execNop s
  | .configure => Sys2Proof.Machine.execConfigure s
  | .encrypt => Sys2Proof.Machine.execEncrypt s
  | .decrypt => Sys2Proof.Machine.execDecrypt s
  | .fround idx => Sys2Proof.Machine.execFround idx s
  | .mix => Sys2Proof.Machine.execMix s
  | .sbox => Sys2Proof.Machine.execSbox s
  | .digit => Sys2Proof.Machine.execDigit s
  | .rkey idx => Sys2Proof.Machine.execRkey idx s

end Sys2Proof.Machine
end

