-- ==== Sys2Proof/Machine/Engine.lean ====
section
/-! DEFINITION. The engine's one step kind, the perform step (40_command_config.md R402, R403, R407). -/

namespace Sys2Proof.Machine

/-- The perform step: decode the whole word latched in PEND (30_encoding.md R303) and execute it; a Bad word completes with
BAD_COMMAND and changes nothing else (40_command_config.md R407). -/
def State.perform (s : State) : Host.Outcome State Fault Refusal :=
  match decode s.pend.w with
  | .ok i => exec i s
  | .error _ => .next (s.raise .badCommand)

/-- The engine's turn: the perform step where it is enabled, and nothing otherwise (40_command_config.md R402,
70_reset_and_hazards.md R800, R801). -/
def State.engineTurn (s : State) : Host.Outcome State Fault Refusal :=
  if s.rst then .next s else if s.status.busy then s.perform else .next s

/-- A command word placed where the engine takes its next command, as an accepted host write of CMD would (40_command_config.md
R400), with the engine's turn next (log 5). -/
def State.placeCommand (s : State) (w : Word) : State :=
  { s.issue w with rst := false, script := .engine :: s.script }

end Sys2Proof.Machine
end

