-- ==== Sys2Proof/Machine/Turns.lean ====
section
/-! DEFINITION. One turn of the machine and its surroundings (20_memory.md R210, 60_exceptions.md R731). -/

namespace Sys2Proof.Machine

/-- A move of the host program: an access, or its assertion of rst (48_host_interface.md R680; log 28). The engine's turn
and the release of rst are none. -/
def Turn.isHostMove : Turn → Bool
  | .engine => false
  | .read _ _ => true
  | .write _ _ _ => true
  | .assertReset => true
  | .releaseReset => false

/-- One turn. -/
def State.takeTurn (s : State) : Turn → Host.Outcome State Fault Refusal
  | .engine => s.engineTurn
  | .read off size => s.busRead off size
  | .write off size v => s.busWrite off size v
  | .assertReset => .next s.assertReset
  | .releaseReset => .next s.releaseReset

/-- The next turn of the script, or the engine's where the script is empty (log 6). -/
def State.runTurn (s : State) : Host.Outcome State Fault Refusal :=
  match s.script with
  | [] => s.engineTurn
  | t :: ts => State.takeTurn { s with script := ts } t

end Sys2Proof.Machine
end

