-- ==== Sys2Proof/Machine/Step.lean ====
section
/-! DEFINITION. The step: the next turn of the machine and its surroundings. -/

namespace Sys2Proof.Machine

/-- One step (20_memory.md R210). -/
def step (s : State) : Host.Outcome State Fault Refusal := s.runTurn

/-- `s` with the command word `w` of `nbits` bits where the next step takes its command (log 5). -/
def State.withFetchWord (s : State) (nbits w : Nat) : State := s.placeCommand (tableWord nbits w)

end Sys2Proof.Machine
end

