-- ==== Sys2Proof/Machine/Codec.lean ====
section
/-! DEFINITION. The text codec, host software over the block functions Enc and Dec (48_host_interface.md R683, R684; outside
the hardware's scope by 00_scope.md R6; log 21). -/

namespace Sys2Proof.Machine

/-- `(hi << 8) | lo` (48_host_interface.md R683). -/
def packChars (hi lo : Half) : Block := hi ++ lo

/-- `TextEncrypt(m)`: one block for two characters, a short final chunk with low byte 0 (48_host_interface.md R683). -/
def textEncrypt (enc : Block → Block) : List Half → List Block
  | [] => []
  | [hi] => [enc (packChars hi 0#8)]
  | hi :: lo :: rest => enc (packChars hi lo) :: textEncrypt enc rest

/-- The characters of one decrypted block: the high byte always, the low byte where it is not 0
(48_host_interface.md R684). -/
def unpackChars (v : Block) : List Half :=
  if v.extractLsb' 0 8 = 0#8 then [v.extractLsb' 8 8] else [v.extractLsb' 8 8, v.extractLsb' 0 8]

/-- `TextDecrypt(blocks)` (48_host_interface.md R684). -/
def textDecrypt (dec : Block → Block) : List Block → List Half
  | [] => []
  | blk :: rest => unpackChars (dec blk) ++ textDecrypt dec rest

end Sys2Proof.Machine
end

