-- ==== Sys2Proof/Machine/HostProgram.lean ====
section
/-! DEFINITION. The host-program notation and pseudo-instructions of 30_encoding.md R306 and R307, as lists of turns. The
FRE sees only the accesses; control flow is the host's. -/

namespace Sys2Proof.Machine

/-- `MemRead(addr, size)` at an absolute bus address (20_memory.md R201). -/
def memRead (addr size : Nat) : Turn := .read (Config.displacement addr) size

/-- `MemWrite(addr, size, v)` at an absolute bus address (20_memory.md R201). -/
def memWrite (addr size : Nat) (v : Word) : Turn := .write (Config.displacement addr) size v

/-- `wr REG, v` (30_encoding.md R306). -/
def wr (r : Reg) (v : Word) : Turn := .write (regOffset r : Int) 4 v

/-- `rd REG` (30_encoding.md R306). -/
def rd (r : Reg) : Turn := .read (regOffset r : Int) 4

/-- `cmd MNEMONIC` and `cmd MNEMONIC, i` (30_encoding.md R306). -/
def cmd (i : Instr) : Turn := wr .cmd (encode i)

/-- `wait` (30_encoding.md R306) in a run whose loop reads BUSY = 1 `polls` times before the engine's turn and BUSY = 0
once after it (log 24). -/
def wait (polls : Nat) : List Turn := List.replicate polls (rd .status) ++ [.engine, rd .status]

/-- `seed64 s` (30_encoding.md R307). -/
def seed64 (seed : Int) : List Turn :=
  [wr .seedLo ((BitVec.ofInt 64 seed).extractLsb' 0 32), wr .seedHi ((BitVec.ofInt 64 seed).extractLsb' 32 32)]

/-- `config p, r, b, s` (30_encoding.md R307). -/
def config (p r b : Nat) (seed : Int) (polls : Nat) : List Turn :=
  [wr .prime (BitVec.ofNat 32 p), wr .rounds (BitVec.ofNat 32 r), wr .boxsize (BitVec.ofNat 32 b)]
    ++ seed64 seed ++ [cmd .configure] ++ wait polls

/-- `query MNEMONIC, v` (30_encoding.md R307). -/
def query (i : Instr) (v : Nat) (polls : Nat) : List Turn :=
  [wr .din (BitVec.ofNat 32 v), cmd i] ++ wait polls ++ [rd .dout]

/-- `enc v` (30_encoding.md R307). -/
def encProgram (v : Nat) (polls : Nat) : List Turn := query .encrypt v polls

/-- `dec v` (30_encoding.md R307). -/
def decProgram (v : Nat) (polls : Nat) : List Turn := query .decrypt v polls

/-- `ack`: clears DONE (30_encoding.md R307). -/
def ack : Turn := wr .status 0x00000002#32

end Sys2Proof.Machine
end

