-- ==== Sys2Proof/Safety.lean ====
section
/-! DEFINITION. What counts as a good state and as a finished run: the invariant that every step keeps, the end of a run with
its observation, and when a result may be used. -/

namespace Sys2Proof.Machine

/-- BOXRAM holds the substitution box of the active configuration (10_state.md R120, 41_sequence_sbox.md R455). -/
def State.boxBuilt (s : State) : Prop :=
  ∀ j, j < s.activeBox → readArray s.boxram j = digitOf Config.dseqPhase s.activePrime j

/-- KEYRAM holds the key sequence of the active configuration for some 64-bit seed (10_state.md R121,
42_key_schedule.md R500). -/
def State.keysBuilt (s : State) : Prop :=
  ∃ seed : BitVec 64, ∀ i, i < s.activeRounds →
    readArray s.keyram i = (keySchedule Config.ksKdf seed.toInt s.activePrime s.activeRounds).getD i 0

/-- Every register has its reset value (10_state.md section 8). -/
def State.registersReset (s : State) : Prop :=
  s.status = State.reset.status ∧ s.irqEn = State.reset.irqEn ∧ s.prime = State.reset.prime ∧
  s.rounds = State.reset.rounds ∧ s.boxsize = State.reset.boxsize ∧ s.seedLo = State.reset.seedLo ∧
  s.seedHi = State.reset.seedHi ∧ s.din = State.reset.din ∧ s.dout = State.reset.dout ∧
  s.aprime = State.reset.aprime ∧ s.arounds = State.reset.arounds ∧ s.aboxsize = State.reset.aboxsize

/-- The invariant of the machine. -/
structure State.Inv (s : State) : Prop where
  /-- DONE and BUSY are never both 1 (60_exceptions.md R742). -/
  notBusyAndDone : ¬ (s.status.busy = true ∧ s.status.done = true)
  /-- Result codes 8 to 15 are never produced (10_state.md R103, 60_exceptions.md R701). -/
  resultLegal : s.status.res.toNat ≤ 7
  /-- BOXRAM has BOX_MAX entries (10_state.md R120). -/
  boxDepth : s.boxram.length = Config.boxMax
  /-- KEYRAM has R_MAX entries (10_state.md R121). -/
  keyDepth : s.keyram.length = Config.roundsMax
  /-- The active prime is a prime of at least 5 (10_state.md R112). -/
  primeLegal : s.status.cfgValid = true → Nat.Prime s.activePrime ∧ 5 ≤ s.activePrime
  /-- The active box size is legal (10_state.md R112). -/
  boxLegal : s.status.cfgValid = true → 1 ≤ s.activeBox ∧ s.activeBox ≤ s.activePrime - 1 ∧ s.activeBox ≤ Config.boxMax
  /-- The active round count is legal (10_state.md R112). -/
  roundsLegal : s.status.cfgValid = true → 1 ≤ s.activeRounds
  /-- BOXRAM is built (10_state.md R120). -/
  boxBuilt : s.status.cfgValid = true → s.boxBuilt
  /-- KEYRAM is built (10_state.md R121). -/
  keysBuilt : s.status.cfgValid = true → s.keysBuilt
  /-- Without an active configuration its registers read 0 (10_state.md R112, 40_command_config.md R406). -/
  activeCleared : s.status.cfgValid = false → s.aprime = 0#16 ∧ s.arounds = 0#8 ∧ s.aboxsize = 0#16
  /-- While rst is asserted every register has its reset value (70_reset_and_hazards.md R800). -/
  heldInReset : s.rst = true → s.registersReset

/-- A run is over: no move of the host program is left in the script, whatever turns of the engine or releases of rst are,
and no command is pending (48_host_interface.md R681; which moves are the host's, log 28). -/
def State.runOver (s : State) : Bool := s.script.all (fun u => !u.isHostMove) && !s.status.busy

/-- The registers of the window, in the order of their offsets. -/
def allRegs : List Reg :=
  [.cmd, .status, .ctrl, .prime, .rounds, .boxsize, .seedLo, .seedHi, .din, .dout, .aprime, .arounds, .aboxsize]

/-- The observation of a run: the values the host's reads returned, oldest first, and the final register state
(48_host_interface.md R681). A read answered with a bus error or while rst is asserted counts with the 0 it returned:
DESIGN CHOICE, unsafe, log 29. -/
def State.observation (s : State) : List Word × List Word :=
  (((s.responses.filter (fun r => r.isRead)).map (fun r => r.data)).reverse, allRegs.map (fun r => s.readReg r))

/-- `s` with other contents where the spec can leave them unspecified: the arrays, the working registers and the model's
counter of free values (10_state.md R120, R121, R123). -/
def State.withUnspecified (s : State) (box : List BoxEntry) (keys : List Block) (d : Datapath) (n : Nat) : State :=
  { s with boxram := box, keyram := keys, datapath := d, freeCtr := n }

/-- `box` and `keys` hold what `s` holds where the spec specifies it: below b and below r of an active configuration
(10_state.md R120, R121). -/
def State.specifiedAgree (s : State) (box : List BoxEntry) (keys : List Block) : Prop :=
  s.status.cfgValid = true →
    (∀ j, j < s.activeBox → box.getD j 0#4 = s.boxram.getD j 0#4) ∧
    (∀ k, k < s.activeRounds → keys.getD k 0#16 = s.keyram.getD k 0#16)

/-- The host may take DOUT as the last command's result (20_memory.md R212, 70_reset_and_hazards.md R820, R822). -/
def State.resultReady (s : State) : Bool := !s.status.busy && s.status.done && decide (s.status.res = ResultCode.ok.bits)

/-- A bus error has been answered (60_exceptions.md R740); it is never cleared. -/
def State.busErrorSeen (s : State) : Bool := s.responses.any (fun r => decide (r.answer = .busError))

end Sys2Proof.Machine
end

