-- ==== Sys2Proof/Certificates/Slice0/Obligations.lean ====
section
/-! DEFINITION. The statements for the provers. A result statement gives the whole next state as an equation, so that it is
the frame too: every register, flag and internal array that the equation does not name is unchanged. The FRE has no byte
memory (log 16); BOXRAM and KEYRAM are its only arrays. What is unspecified after a command stands under an existential
quantifier: nothing is said of it. -/

open Sys2Proof Sys2Proof.Machine

/-! ### Encoding (30_encoding.md) -/

/-- Decoding the encoding of a well-formed command gives the command back (R300, R303, R308). -/
def Obligations.DecodeOfEncodeIsTheCommand : Prop :=
  ∀ i : Instr, i.wellFormed = true → decode (encode i) = .ok i

/-- The opcode map by match and mask, the legal words, and what a decoded command encodes to (R302, R303). -/
def Obligations.WordsDecodeByTheOpcodeMap : Prop :=
  ∀ w : Word,
    ((∃ i, decode w = .ok i) ↔
      (w.extractLsb' 4 4 = 0#4 ∧ w.extractLsb' 16 16 = 0#16 ∧ (w.extractLsb' 0 4).toNat ≤ 8)) ∧
    (decode w = .ok .nop ↔ w &&& 0xFFFF00FF#32 = 0#32) ∧
    (decode w = .ok .configure ↔ w &&& 0xFFFF00FF#32 = 1#32) ∧
    (decode w = .ok .encrypt ↔ w &&& 0xFFFF00FF#32 = 2#32) ∧
    (decode w = .ok .decrypt ↔ w &&& 0xFFFF00FF#32 = 3#32) ∧
    (∀ k, decode w = .ok (.fround k) ↔ (w &&& 0xFFFF00FF#32 = 4#32 ∧ k = (w.extractLsb' 8 8).toNat)) ∧
    (decode w = .ok .mix ↔ w &&& 0xFFFF00FF#32 = 5#32) ∧
    (decode w = .ok .sbox ↔ w &&& 0xFFFF00FF#32 = 6#32) ∧
    (decode w = .ok .digit ↔ w &&& 0xFFFF00FF#32 = 7#32) ∧
    (∀ k, decode w = .ok (.rkey k) ↔ (w &&& 0xFFFF00FF#32 = 8#32 ∧ k = (w.extractLsb' 8 8).toNat)) ∧
    (∀ i, decode w = .ok i → i.wellFormed = true ∧ encode i &&& 0xFFFF00FF#32 = w &&& 0xFFFF00FF#32)

/-- IDX does not matter to the seven commands that ignore it: the same decoding and the same perform step (R305). The two
next states differ only in the latched word and where the spec leaves the contents unspecified; the entries below b and
below r agree. -/
def Obligations.IgnoredIndexGivesTheSameBehaviour : Prop :=
  decode 0x0000FF02#32 = .ok .encrypt ∧
  ∀ (s : State) (w : Word) (k : BitVec 8) (op : Nat), op ∈ [0, 1, 2, 3, 5, 6, 7] →
    w &&& 0xFFFF00FF#32 = BitVec.ofNat 32 op →
    (∃ i, decode w = .ok i ∧ decode (w &&& 0xFFFF00FF#32 ||| (k.setWidth 32 <<< 8)) = .ok i) ∧
    ∃ (t : State) (box : List BoxEntry) (keys : List Block) (d : Datapath) (n : Nat),
      State.perform { s with pend := { s.pend with w := w } } = .next { t with pend := { s.pend with w := w } } ∧
      State.perform { s with pend := { s.pend with w := w &&& 0xFFFF00FF#32 ||| (k.setWidth 32 <<< 8) } } =
        .next (State.withUnspecified
          { t with pend := { s.pend with w := w &&& 0xFFFF00FF#32 ||| (k.setWidth 32 <<< 8) } } box keys d n) ∧
      t.specifiedAgree box keys

/-- The encodings that R308 lists decode to their commands. -/
def Obligations.ListedEncodingsDecode : Prop :=
  decode 0x00000000#32 = .ok .nop ∧ decode 0x00000001#32 = .ok .configure ∧
  decode 0x00000002#32 = .ok .encrypt ∧ decode 0x00000003#32 = .ok .decrypt ∧
  decode 0x00000004#32 = .ok (.fround 0) ∧ decode 0x00000005#32 = .ok .mix ∧
  decode 0x00000006#32 = .ok .sbox ∧ decode 0x00000007#32 = .ok .digit ∧
  decode 0x00000008#32 = .ok (.rkey 0) ∧ decode 0x00000908#32 = .ok (.rkey 9)

/-- A bus word's four byte lanes carry it, lane k holding bits 8k+7 to 8k (20_memory.md R202; log 23). -/
def Obligations.ByteLanesCarryTheWord : Prop :=
  ∀ w : Word, wordOfLanes (lanesOfWord w) = some w ∧
    ∀ k, k < 4 → (lanesOfWord w).getD k 0#8 = w.extractLsb' (8 * k) 8

/-! ### The perform step (40_command_config.md) -/

/-- A step at the engine's turn runs the command that PEND's word decodes to (R402). That an empty script is the engine's
turn is the model's choice, its form of weak fairness (log 6). -/
def Obligations.StepRunsTheDecodedCommand : Prop :=
  ∀ (s : State) (i : Instr), s.rst = false → s.status.busy = true → decode s.pend.w = .ok i →
    (s.script = [] → step s = exec i s) ∧
    (∀ ts, s.script = .engine :: ts → step s = exec i { s with script := ts })

/-- A word with a reserved opcode or a nonzero reserved field completes with BAD_COMMAND and changes nothing else (R407). -/
def Obligations.IllegalWordCompletesWithBadCommand : Prop :=
  decode 0x00000009#32 = .error .reservedOpcode ∧ decode 0x00000012#32 = .error .reservedLow ∧
  decode 0x00010002#32 = .error .reservedHigh ∧
  ∀ (s : State) (ts : List Turn), s.rst = false → s.status.busy = true → s.script = .engine :: ts →
    (8 < (s.pend.w.extractLsb' 0 4).toNat ∨ s.pend.w.extractLsb' 4 4 ≠ 0#4 ∨ s.pend.w.extractLsb' 16 16 ≠ 0#16) →
    step s = .next { s with
      script := ts
      status := { s.status with res := 6#4, busy := false, done := true } }

/-- The engine takes no step while no command is pending (R402; 70_reset_and_hazards.md R801). An empty script is the
engine's turn by the model's choice (log 6). -/
def Obligations.EngineIdleWithoutACommand : Prop :=
  ∀ s : State, s.status.busy = false →
    (s.script = [] → step s = .next s) ∧
    (∀ ts, s.script = .engine :: ts → step s = .next { s with script := ts })

/-- The result code of a perform step is the first that applies (60_exceptions.md R730), and it is a completion. -/
def Obligations.ResultCodeIsTheFirstThatApplies : Prop :=
  ∀ (s : State) (ts : List Turn), s.rst = false → s.status.busy = true → s.script = .engine :: ts →
    let op := (s.pend.w.extractLsb' 0 4).toNat
    let idx := (s.pend.w.extractLsb' 8 8).toNat
    let p := s.pend.sp.toNat
    let b := s.pend.sb.toNat
    ∃ t, step s = .next t ∧ t.status.busy = false ∧ t.status.done = true ∧ t.status.ovr = s.status.ovr ∧
      t.status.res =
        if s.pend.w.extractLsb' 16 16 ≠ 0#16 ∨ s.pend.w.extractLsb' 4 4 ≠ 0#4 ∨ 8 < op then 6#4
        else if 2 ≤ op ∧ s.status.cfgValid = false then 5#4
        else if op = 7 ∧ s.aprime.toNat - 1 ≤ s.pend.din.toNat then 7#4
        else if (op = 4 ∨ op = 8) ∧ s.arounds.toNat ≤ idx then 7#4
        else if op ≠ 1 then 0#4
        else if p < 5 ∨ ¬ Nat.Prime p then 1#4
        else if b = 0 then 2#4
        else if p - 1 < b ∨ Config.boxMax < b then 3#4
        else if s.pend.sr.toNat = 0 then 4#4
        else 0#4

/-- The seven commands that need a configuration complete with NOT_CONFIGURED without one, and change nothing else (R408). -/
def Obligations.UnconfiguredCommandsCompleteWithNotConfigured : Prop :=
  ∀ (s : State) (k : Nat) (i : Instr),
    i ∈ [Instr.encrypt, .decrypt, .fround k, .mix, .sbox, .digit, .rkey k] → s.status.cfgValid = false →
    exec i s = .next { s with status := { s.status with res := 5#4, busy := false, done := true } }

/-! ### NOP and CONFIGURE (40_command_config.md) -/

/-- NOP completes with OK in every state and changes nothing else (R402, R403). -/
def Obligations.NopCompletes : Prop :=
  ∀ s : State, exec .nop s = .next { s with status := { s.status with res := 0#4, busy := false, done := true } }

/-- The primality verdict (R409), and a prime of at least 5 is never refused for itself. -/
def Obligations.PrimalityVerdictEqualsTheDefinition : Prop :=
  (∀ n : Nat, isPrime n = true ↔ (2 ≤ n ∧ ∀ d, 2 ≤ d → d < n → ¬ d ∣ n)) ∧
  (∀ boxMax p b r : Nat, checkConfig boxMax p b r = .primeInvalid ↔
    ¬ (5 ≤ p ∧ ∀ d, 2 ≤ d → d < p → ¬ d ∣ p))

/-- CONFIGURE with legal latched values completes with OK: the active registers, the box, the chained keys, CFG_VALID, and
nothing else but unspecified contents (R404, R405; 41_sequence_sbox.md R452, R455; 42_key_schedule.md R500). That
BOX_MAX is 4096 is the spec's default (log 3). -/
def Obligations.ConfigureBuildsTheConfiguration : Prop :=
  ∀ s : State,
    let p := s.pend.sp.toNat
    let r := s.pend.sr.toNat
    let b := s.pend.sb.toNat
    Nat.Prime p → 5 ≤ p → 1 ≤ b → b ≤ p - 1 → b ≤ 4096 → 1 ≤ r →
    ∃ (box : List BoxEntry) (keys : List Block) (n : Nat),
      exec .configure s = .next { s with
        aprime := s.pend.sp
        arounds := s.pend.sr
        aboxsize := s.pend.sb
        boxram := box
        keyram := keys
        freeCtr := n
        status := { s.status with cfgValid := true, res := 0#4, busy := false, done := true } } ∧
      box.length = 4096 ∧ keys.length = 255 ∧
      (∀ j, j < b → (box.getD j 0#4).toNat = (10 * (10 ^ j % p)) / p) ∧
      (keys.getD 0 0#16).toNat = Config.ksKdf s.pend.sseed.toInt p 0 % p ∧
      (∀ i, i + 1 < r →
        (keys.getD (i + 1) 0#16).toNat = Config.ksKdf ((keys.getD i 0#16).toNat : Int) p (i + 1) % p)

/-- CONFIGURE with an illegal latched value completes with the first failing check's code and discards the active
configuration (R404, R406). -/
def Obligations.ConfigureFailureDiscardsTheConfiguration : Prop :=
  ∀ s : State,
    let p := s.pend.sp.toNat
    let r := s.pend.sr.toNat
    let b := s.pend.sb.toNat
    let fails := fun code : BitVec 4 =>
      ∃ (box : List BoxEntry) (keys : List Block) (n : Nat),
        exec .configure s = .next { s with
          aprime := 0#16
          arounds := 0#8
          aboxsize := 0#16
          boxram := box
          keyram := keys
          freeCtr := n
          status := { s.status with cfgValid := false, res := code, busy := false, done := true } } ∧
        box.length = 4096 ∧ keys.length = 255
    ((p < 5 ∨ ¬ Nat.Prime p) → fails 1#4) ∧
    (5 ≤ p → Nat.Prime p → b = 0 → fails 2#4) ∧
    (5 ≤ p → Nat.Prime p → b ≠ 0 → (p - 1 < b ∨ 4096 < b) → fails 3#4) ∧
    (5 ≤ p → Nat.Prime p → b ≠ 0 → b ≤ p - 1 → b ≤ 4096 → r = 0 → fails 4#4)

/-- Two CONFIGUREs of the same latched values give the same results, box and keys, whatever the states held before
(R410; 42_key_schedule.md R504). -/
def Obligations.ConfigureIsDeterministic : Prop :=
  ∀ s s' : State, s.pend.sp = s'.pend.sp → s.pend.sr = s'.pend.sr → s.pend.sb = s'.pend.sb →
    s.pend.sseed = s'.pend.sseed →
    ∃ t t', exec .configure s = .next t ∧ exec .configure s' = .next t' ∧
      t.status.res = t'.status.res ∧ t.status.cfgValid = t'.status.cfgValid ∧ t.aprime = t'.aprime ∧
      t.arounds = t'.arounds ∧ t.aboxsize = t'.aboxsize ∧
      (∀ j, j < t.activeBox → t.boxram.getD j 0#4 = t'.boxram.getD j 0#4) ∧
      (∀ i, i < t.activeRounds → t.keyram.getD i 0#16 = t'.keyram.getD i 0#16)

/-! ### The decimal sequence and the box (41_sequence_sbox.md) -/

/-- The digit of either DSEQ_PHASE in closed form (R452). -/
def Obligations.DigitClosedForm : Prop :=
  ∀ phase p j : Nat, 2 ≤ p → digitOf phase p j = (10 * (10 ^ (j + phase) % p)) / p

/-- Every digit lies in [0, 9], and every remainder held before a step is below the prime (R453). -/
def Obligations.DigitsAreDecimal : Prop :=
  ∀ phase p j : Nat, 2 ≤ p → digitOf phase p j ≤ 9 ∧ remainder p j < p

/-- The sequence of a prime that does not divide 10 repeats with the multiplicative order of 10 modulo it; for p = 5 it is
2, 0, 0, 0 (R454). -/
def Obligations.DigitSequenceIsPeriodic : Prop :=
  (∀ p j : Nat, Nat.Prime p → ¬ p ∣ 10 → digitOf 0 p (j + orderOf (10 : ZMod p)) = digitOf 0 p j) ∧
  digitOf 0 5 0 = 2 ∧ ∀ j, digitOf 0 5 (j + 1) = 0

/-- SBOX completes with BOXRAM[v mod b] (R456, R460). -/
def Obligations.SboxCompletes : Prop :=
  ∀ s : State, s.status.cfgValid = true →
    exec .sbox s = .next { s with
      dout := BitVec.ofNat 16 (s.boxram.getD (s.pend.din.toNat % s.aboxsize.toNat) 0#4).toNat
      status := { s.status with res := 0#4, busy := false, done := true } }

/-- DIGIT completes with the digit of the active prime, b notwithstanding (R452, R461). -/
def Obligations.DigitCompletes : Prop :=
  ∀ s : State, s.status.cfgValid = true → s.pend.din.toNat < s.aprime.toNat - 1 →
    exec .digit s = .next { s with
      dout := BitVec.ofNat 16 ((10 * (10 ^ s.pend.din.toNat % s.aprime.toNat)) / s.aprime.toNat)
      status := { s.status with res := 0#4, busy := false, done := true } }

/-! ### The key schedule (42_key_schedule.md) -/

/-- Every round key is below p, and there are r of them, for every KS_KDF (R500, R502). -/
def Obligations.RoundKeysLieBelowThePrime : Prop :=
  ∀ (kdf : Int → Nat → Nat → Nat) (seed : Int) (p r : Nat), 0 < p →
    (keySchedule kdf seed p r).length = r ∧ ∀ k ∈ keySchedule kdf seed p r, k < p

/-- What a key depends on, for every KS_KDF: the chain, the seed only through the first key, and the prefix property
(R503). -/
def Obligations.RoundKeyDependencies : Prop :=
  ∀ (kdf : Int → Nat → Nat → Nat) (p : Nat),
    (∀ (seed : Int) (r : Nat), 1 ≤ r → (keySchedule kdf seed p r).getD 0 0 = kdf seed p 0 % p) ∧
    (∀ (seed : Int) (r i : Nat), i + 1 < r →
      (keySchedule kdf seed p r).getD (i + 1) 0 = kdf ((keySchedule kdf seed p r).getD i 0 : Nat) p (i + 1) % p) ∧
    (∀ (seed seed' : Int) (r : Nat), kdf seed p 0 % p = kdf seed' p 0 % p →
      keySchedule kdf seed p r = keySchedule kdf seed' p r) ∧
    (∀ (seed : Int) (r n : Nat), (keySchedule kdf seed p (r + n)).take r = keySchedule kdf seed p r)

/-- RKEY completes with KEYRAM[i] for a legal index (R510). -/
def Obligations.RkeyCompletes : Prop :=
  ∀ (s : State) (i : Nat), s.status.cfgValid = true → i < s.arounds.toNat →
    exec (.rkey i) s = .next { s with
      dout := s.keyram.getD i 0#16
      status := { s.status with res := 0#4, busy := false, done := true } }

/-- FROUND and RKEY with an index of at least r, and DIGIT with one of at least p − 1, complete with INDEX_RANGE and change
nothing else (R510; 43_mixing_round.md R560; 41_sequence_sbox.md R461). -/
def Obligations.IndexOutOfRangeChangesNothingElse : Prop :=
  ∀ (s : State) (k : Nat), s.status.cfgValid = true →
    let t : State := { s with status := { s.status with res := 7#4, busy := false, done := true } }
    (s.arounds.toNat ≤ k → exec (.fround k) s = .next t ∧ exec (.rkey k) s = .next t) ∧
    (s.aprime.toNat - 1 ≤ s.pend.din.toNat → exec .digit s = .next t)

/-! ### Mixing and the round function (43_mixing_round.md) -/

/-- MIX completes with the three stages, each exact and then reduced (R550, R554, R561). -/
def Obligations.MixCompletes : Prop :=
  ∀ s : State, s.status.cfgValid = true →
    let p := s.aprime.toNat
    let x := s.pend.din.toNat
    let d := (s.boxram.getD (((x ^ 3 + 7 * x + 11) % p) % s.aboxsize.toNat) 0#4).toNat
    exec .mix s = .next { s with
      dout := BitVec.ofNat 16 ((d ^ 3 + 5 * d + 13) % p)
      status := { s.status with res := 0#4, busy := false, done := true } }

/-- FROUND completes with the full round-function value of DIN[7:0] and round key i (R556, R560). -/
def Obligations.FroundCompletes : Prop :=
  ∀ (s : State) (i : Nat), s.status.cfgValid = true → i < s.arounds.toNat →
    let p := s.aprime.toNat
    let x := (s.pend.din.toNat % 256 + (s.keyram.getD i 0#16).toNat) % p
    let d := (s.boxram.getD (((x ^ 3 + 7 * x + 11) % p) % s.aboxsize.toNat) 0#4).toNat
    exec (.fround i) s = .next { s with
      dout := BitVec.ofNat 16 ((d ^ 3 + 5 * d + 13) % p)
      status := { s.status with res := 0#4, busy := false, done := true } }

/-- Under an active configuration Mix stays below p and below 788 and takes only the values G(0) to G(9)
(R551, R552). -/
def Obligations.MixTakesTenSmallValues : Prop :=
  ∀ s : State, s.Inv → s.status.cfgValid = true → ∀ x : Nat,
    s.mixValue x < s.activePrime ∧ s.mixValue x ≤ 787 ∧
    s.mixValue x ∈ ([13, 19, 31, 55, 97, 163, 259, 391, 565, 787].map fun g => g % s.activePrime)

/-- Mix depends on its operand only modulo p, and Fr on its half only modulo p (R558, R561). -/
def Obligations.MixReducesItsOperand : Prop :=
  ∀ s : State, (∀ x : Nat, s.mixValue x = s.mixValue (x % s.activePrime)) ∧
    (∀ (h h' : Half) (i : Nat), h.toNat % s.activePrime = h'.toNat % s.activePrime →
      s.roundValue h i = s.roundValue h' i)

/-! ### The block cipher (44_block_cipher.md) -/

/-- ENCRYPT completes with the r rounds of XOR-and-swap in increasing order, written here as a fold over pairs of numbers
(R600, R601, R602, R605, R610). Of the working registers nothing is said. -/
def Obligations.EncryptCompletes : Prop :=
  ∀ s : State, s.status.cfgValid = true →
    let p := s.aprime.toNat
    let mix := fun x : Nat =>
      let d := (s.boxram.getD (((x ^ 3 + 7 * x + 11) % p) % s.aboxsize.toNat) 0#4).toNat
      (d ^ 3 + 5 * d + 13) % p
    let fr := fun (h i : Nat) => mix ((h + (s.keyram.getD i 0#16).toNat) % p)
    let halves := (List.range s.arounds.toNat).foldl
      (fun (lr : Nat × Nat) i => (lr.2, (lr.1 ^^^ fr lr.2 i) % 256)) (s.pend.din.toNat / 256, s.pend.din.toNat % 256)
    ∃ (d : Datapath) (n : Nat),
      exec .encrypt s = .next { s with
        dout := BitVec.ofNat 16 (halves.1 * 256 + halves.2)
        datapath := d
        freeCtr := n
        status := { s.status with res := 0#4, busy := false, done := true } }

/-- DECRYPT completes with the r mirrored rounds in decreasing order (R600, R603, R604, R605, R611). -/
def Obligations.DecryptCompletes : Prop :=
  ∀ s : State, s.status.cfgValid = true →
    let p := s.aprime.toNat
    let mix := fun x : Nat =>
      let d := (s.boxram.getD (((x ^ 3 + 7 * x + 11) % p) % s.aboxsize.toNat) 0#4).toNat
      (d ^ 3 + 5 * d + 13) % p
    let fr := fun (h i : Nat) => mix ((h + (s.keyram.getD i 0#16).toNat) % p)
    let halves := (List.range s.arounds.toNat).reverse.foldl
      (fun (lr : Nat × Nat) i => ((lr.2 ^^^ fr lr.1 i) % 256, lr.1)) (s.pend.din.toNat / 256, s.pend.din.toNat % 256)
    ∃ (d : Datapath) (n : Nat),
      exec .decrypt s = .next { s with
        dout := BitVec.ofNat 16 (halves.1 * 256 + halves.2)
        datapath := d
        freeCtr := n
        status := { s.status with res := 0#4, busy := false, done := true } }

/-- The round trip of a block, for every configuration and every block (R607). -/
def Obligations.DecryptionUndoesEncryption : Prop :=
  ∀ (s : State) (blk : Block), s.decBlock (s.encBlock blk) = blk

/-- Enc and Dec are permutations of the blocks and inverse to each other (R608). -/
def Obligations.CiphersArePermutations : Prop :=
  ∀ s : State, Function.Bijective s.encBlock ∧ Function.Bijective s.decBlock ∧
    (∀ blk : Block, s.encBlock (s.decBlock blk) = blk) ∧ (∀ blk : Block, s.decBlock (s.encBlock blk) = blk)

/-- An ENCRYPT performed, its DOUT given to a DECRYPT, and the block is back in DOUT (R607, R610, R611). -/
def Obligations.EncryptThenDecryptRestoresTheBlock : Prop :=
  ∀ s : State, s.status.cfgValid = true →
    ∃ t u, exec .encrypt s = .next t ∧ exec .decrypt { t with pend := { t.pend with din := t.dout } } = .next u ∧
      u.dout = s.pend.din ∧ u.status.res = 0#4

/-- Enc and Dec read the active configuration alone: p, b, r, the box below b and the keys below r; no other state,
and nothing an earlier block left behind (R609, R612). -/
def Obligations.CiphersReadTheActiveConfigurationAlone : Prop :=
  ∀ s s' : State, s.aprime = s'.aprime → s.arounds = s'.arounds → s.aboxsize = s'.aboxsize → 0 < s.activeBox →
    (∀ j, j < s.activeBox → s.boxram.getD j 0#4 = s'.boxram.getD j 0#4) →
    (∀ i, i < s.activeRounds → s.keyram.getD i 0#16 = s'.keyram.getD i 0#16) →
    ∀ blk : Block, s.encBlock blk = s'.encBlock blk ∧ s.decBlock blk = s'.decBlock blk

/-- No command lets software observe what the spec leaves unspecified: BOXRAM from b on, KEYRAM from r on, both while
CFG_VALID = 0, and the working registers (10_state.md R120, R121, R123). Two states that differ only there take the command
to two states that differ only there, agree below b and below r again, and read alike. -/
def Obligations.UnspecifiedContentsAreNeverObserved : Prop :=
  ∀ (i : Instr) (s : State) (box : List BoxEntry) (keys : List Block) (d : Datapath) (n : Nat),
    (s.status.cfgValid = true → 0 < s.activeBox) → s.specifiedAgree box keys →
    ∃ (t : State) (box' : List BoxEntry) (keys' : List Block) (d' : Datapath) (n' : Nat),
      exec i s = .next t ∧
      exec i (s.withUnspecified box keys d n) = .next (t.withUnspecified box' keys' d' n') ∧
      (t.status.cfgValid = true → 0 < t.activeBox) ∧ t.specifiedAgree box' keys' ∧
      (∀ r : Reg, t.readReg r = (t.withUnspecified box' keys' d' n').readReg r) ∧
      t.irq = (t.withUnspecified box' keys' d' n').irq

/-! ### Issue, drop and the register window (40_command_config.md, 10_state.md, 20_memory.md) -/

/-- A write of CMD while idle issues the word: PEND latches every operand, BUSY is set, DONE cleared, and nothing else
changes (R400). -/
def Obligations.IssueLatchesEveryOperand : Prop :=
  ∀ (s : State) (w : Word) (ts : List Turn), s.rst = false → s.status.busy = false → s.script = .write 0 4 w :: ts →
    step s = .next { s with
      script := ts
      responses := { isRead := false, answer := .accepted, data := 0#32 } :: s.responses
      pend := { w := w, din := s.din, sp := s.prime, sr := s.rounds, sb := s.boxsize, sseed := s.seedHi ++ s.seedLo }
      status := { s.status with busy := true, done := false } }

/-- A write of CMD while a command is pending sets OVR alone, and OVR stays until a host writes 1 to STATUS bit 3 or until
reset (R401). -/
def Obligations.CommandWrittenWhileBusyIsDropped : Prop :=
  (∀ (s : State) (w : Word) (ts : List Turn), s.rst = false → s.status.busy = true → s.script = .write 0 4 w :: ts →
    step s = .next { s with
      script := ts
      responses := { isRead := false, answer := .accepted, data := 0#32 } :: s.responses
      status := { s.status with ovr := true } }) ∧
  (∀ s t : State, step s = .next t → s.status.ovr = true → t.status.ovr = false →
    (∃ ts, s.script = .assertReset :: ts) ∨ (∃ v ts, s.script = .write 4 4 v :: ts ∧ v.getLsbD 3 = true))

/-- A write of STATUS clears DONE and OVR where its bits 1 and 3 are 1, and changes nothing else (10_state.md R103). -/
def Obligations.StatusWriteClearsDoneAndOvrAlone : Prop :=
  ∀ (s : State) (v : Word) (ts : List Turn), s.rst = false → s.script = .write 4 4 v :: ts →
    ∃ st : Status,
      step s = .next { s with
        script := ts
        responses := { isRead := false, answer := .accepted, data := 0#32 } :: s.responses
        status := st } ∧
      st.word = s.status.word &&& ~~~(v &&& 0x0000000A#32) ∧
      st.busy = s.status.busy ∧ st.cfgValid = s.status.cfgValid ∧ st.res = s.status.res ∧
      st.done = (s.status.done && !v.getLsbD 1) ∧ st.ovr = (s.status.ovr && !v.getLsbD 3)

/-- STATUS as it is read, field by field; bits 31:8 read 0 (10_state.md R103). -/
def Obligations.StatusWordLayout : Prop :=
  ∀ s : State, (s.readReg .status).getLsbD 0 = s.status.busy ∧ (s.readReg .status).getLsbD 1 = s.status.done ∧
    (s.readReg .status).getLsbD 2 = s.status.cfgValid ∧ (s.readReg .status).getLsbD 3 = s.status.ovr ∧
    (s.readReg .status).extractLsb' 4 4 = s.status.res ∧ (s.readReg .status).extractLsb' 8 24 = 0#24

/-- A write of a read-write register stores the bits of its field, reads back with reserved bits 0, and changes no other
register, no array, no pending command (10_state.md R100, R101, R104 to R110; 20_memory.md R201). The offsets are those of R100's table. -/
def Obligations.RegisterWriteChangesThatRegisterAlone : Prop :=
  ∀ (s : State) (off : Nat) (r : Reg) (mask v : Word) (ts : List Turn), s.rst = false →
    (off, r, mask) ∈ [(0x08, Reg.ctrl, 0x00000001#32), (0x0C, .prime, 0x0000FFFF#32), (0x10, .rounds, 0x000000FF#32),
      (0x14, .boxsize, 0x0000FFFF#32), (0x18, .seedLo, 0xFFFFFFFF#32), (0x1C, .seedHi, 0xFFFFFFFF#32),
      (0x20, .din, 0x0000FFFF#32)] →
    s.script = .write (off : Int) 4 v :: ts →
    ∃ t, step s = .next t ∧ t.readReg r = v &&& mask ∧ (∀ r', r' ≠ r → t.readReg r' = s.readReg r') ∧
      t.status = s.status ∧ t.boxram = s.boxram ∧ t.keyram = s.keyram ∧ t.pend = s.pend ∧ t.datapath = s.datapath ∧
      t.rst = s.rst ∧ t.freeCtr = s.freeCtr ∧ t.script = ts ∧
      t.responses = { isRead := false, answer := .accepted, data := 0#32 } :: s.responses

/-- A write of a read-only register or of a reserved offset has no effect (10_state.md R100, R101). -/
def Obligations.ReadOnlyAndReservedOffsetsIgnoreWrites : Prop :=
  ∀ (s : State) (off : Nat) (v : Word) (ts : List Turn), s.rst = false → 0x24 ≤ off → off ≤ 0xFC → off % 4 = 0 →
    s.script = .write (off : Int) 4 v :: ts →
    step s = .next { s with
      script := ts
      responses := { isRead := false, answer := .accepted, data := 0#32 } :: s.responses }

/-- A read answers the register's value, 0 for CMD and for a reserved offset, and changes nothing
(10_state.md R100, R102; 20_memory.md R201, R206). The offsets are those of R100's table; what each register's value is,
`RegisterWordsCarryTheirFields` and `StatusWordLayout` say. -/
def Obligations.ReadsAnswerTheRegisterAndChangeNothing : Prop :=
  ∀ (s : State) (ts : List Turn), s.rst = false →
    (∀ (off : Nat) (r : Reg), (off, r) ∈ [(0x00, Reg.cmd), (0x04, .status), (0x08, .ctrl), (0x0C, .prime), (0x10, .rounds),
        (0x14, .boxsize), (0x18, .seedLo), (0x1C, .seedHi), (0x20, .din), (0x24, .dout), (0x28, .aprime),
        (0x2C, .arounds), (0x30, .aboxsize)] → s.script = .read (off : Int) 4 :: ts →
      step s = .next { s with
        script := ts
        responses := { isRead := true, answer := .accepted, data := s.readReg r } :: s.responses }) ∧
    (∀ off : Nat, 0x34 ≤ off → off ≤ 0xFC → off % 4 = 0 → s.script = .read (off : Int) 4 :: ts →
      step s = .next { s with
        script := ts
        responses := { isRead := true, answer := .accepted, data := 0#32 } :: s.responses }) ∧
    s.readReg .cmd = 0#32

/-- An access of the window that is misaligned or not of four bytes has no effect on the FRE's state, reads 0 and is answered
with a bus error, in reset too (20_memory.md R204, 60_exceptions.md R740). The model's choices: that the run goes on and the
error stands in the record of responses (log 7), that every size other than 4 is refused (log 18), and that an access which
begins in the window belongs to it though it ends beyond it (log 26). -/
def Obligations.RefusedAccessIsABusErrorWithoutEffect : Prop :=
  ∀ (s : State) (off : Int) (size : Nat) (v : Word) (ts : List Turn), 0 ≤ off → off < 256 →
    (off % 4 ≠ 0 ∨ size ≠ 4) →
    (s.script = .read off size :: ts →
      step s = .next { s with
        script := ts
        responses := { isRead := true, answer := .busError, data := 0#32 } :: s.responses }) ∧
    (s.script = .write off size v :: ts →
      step s = .next { s with
        script := ts
        responses := { isRead := false, answer := .busError, data := 0#32 } :: s.responses })

/-- An access outside the window, which the FRE does not decode, stops the model with a fault (20_memory.md R204; the model's
choice, log 8). -/
def Obligations.AccessOutsideTheWindowStops : Prop :=
  ∀ (s : State) (off : Int) (size : Nat) (v : Word) (ts : List Turn), (off < 0 ∨ 256 ≤ off) →
    (s.script = .read off size :: ts → step s = .fault (.outsideWindow off)) ∧
    (s.script = .write off size v :: ts → step s = .fault (.outsideWindow off))

/-! ### Interrupt and reset (60_exceptions.md, 70_reset_and_hazards.md) -/

/-- irq is IRQ_EN and DONE: equal to IRQ_EN after every perform step, 0 after an issue and after an acknowledgement
(60_exceptions.md R720, R741). -/
def Obligations.InterruptFollowsCompletion : Prop :=
  (∀ s : State, s.irq = (s.irqEn && s.status.done)) ∧
  (∀ (i : Instr) (s : State), ∃ t, exec i s = .next t ∧ t.irq = s.irqEn ∧ t.irqEn = s.irqEn) ∧
  (∀ (s : State) (w : Word), (s.issue w).irq = false) ∧
  (∀ (s : State) (v : Word), v.getLsbD 1 = true → (s.ackStatus v).irq = false)

/-- The values the registers read after reset, and irq (10_state.md section 8, 70_reset_and_hazards.md R801). -/
def Obligations.RegistersAfterReset : Prop :=
  (∀ r : Reg, State.reset.readReg r = if r = .boxsize then 0x00000100#32 else 0#32) ∧
  State.reset.irq = false ∧ State.reset.status.busy = false ∧ State.reset.status.cfgValid = false

/-- The assertion of rst, in any state, busy or not: every register gets its reset value, the pending command is gone, irq
falls, and rst is asserted (70_reset_and_hazards.md R800). -/
def Obligations.ResetTakesEveryRegisterToItsValue : Prop :=
  ∀ (s : State) (ts : List Turn), s.script = .assertReset :: ts →
    ∃ t, step s = .next t ∧ (∀ r : Reg, t.readReg r = State.reset.readReg r) ∧ t.status.busy = false ∧
      t.irq = false ∧ t.rst = true ∧ t.script = ts ∧ t.responses = s.responses

/-- While rst is asserted the engine takes no step, no access is accepted or changes anything, and reads are answered with 0
(70_reset_and_hazards.md R800); an access that is misaligned or not of four bytes is a bus error then too (60_exceptions.md
R740). The response to the others is the model's choice (log 25), and so is that an empty script is the engine's turn
(log 6). -/
def Obligations.NothingHappensWhileResetIsHeld : Prop :=
  ∀ (s : State) (ts : List Turn), s.rst = true →
    (s.script = [] → step s = .next s) ∧
    (s.script = .engine :: ts → step s = .next { s with script := ts }) ∧
    (∀ (off : Int) (size : Nat), 0 ≤ off → off < 256 → s.script = .read off size :: ts →
      step s = .next { s with
        script := ts
        responses := {
          isRead := true
          answer := if off % 4 = 0 ∧ size = 4 then .heldInReset else .busError
          data := 0#32 } :: s.responses }) ∧
    (∀ (off : Int) (size : Nat) (v : Word), 0 ≤ off → off < 256 → s.script = .write off size v :: ts →
      step s = .next { s with
        script := ts
        responses := {
          isRead := false
          answer := if off % 4 = 0 ∧ size = 4 then .heldInReset else .busError
          data := 0#32 } :: s.responses })

/-- The first command after reset: NOP completes with OK, CONFIGURE with PRIME_INVALID, every other command with
NOT_CONFIGURED (70_reset_and_hazards.md R801). -/
def Obligations.FirstCommandAfterReset : Prop :=
  ∀ (w : Word) (i : Instr), decode w = .ok i →
    ∃ t, step { State.reset.issue w with script := [.engine] } = .next t ∧ t.status.done = true ∧
      t.status.cfgValid = false ∧ t.dout = 0#16 ∧
      t.status.res = if i = .nop then 0#4 else if i = .configure then 1#4 else 5#4

/-! ### The whole machine -/

/-- The invariant holds right after reset. -/
def Obligations.InvariantHoldsAtReset : Prop := State.reset.Inv

/-- Every step keeps the invariant: DONE and BUSY exclude each other, RES is legal, the arrays keep their depth, an active
configuration is legal with its box and keys built, and none leaves its registers at 0 (10_state.md R103, R112, R120,
R121; 60_exceptions.md R742). -/
def Obligations.EveryStepKeepsTheInvariant : Prop :=
  ∀ s t : State, s.Inv → step s = .next t → t.Inv

/-- The active configuration, the box and the keys change only when CONFIGURE is performed or reset is asserted
(10_state.md R109; 20_memory.md R216; 70_reset_and_hazards.md R824). An empty script is the engine's turn (log 6). -/
def Obligations.OnlyConfigureAndResetChangeTheActiveConfiguration : Prop :=
  ∀ s t : State, step s = .next t →
    (t.aprime = s.aprime ∧ t.arounds = s.arounds ∧ t.aboxsize = s.aboxsize ∧ t.status.cfgValid = s.status.cfgValid ∧
      t.boxram = s.boxram ∧ t.keyram = s.keyram) ∨
    (∃ ts, s.script = .assertReset :: ts) ∨
    (s.rst = false ∧ s.status.busy = true ∧ s.pend.w &&& 0xFFFF00FF#32 = 1#32 ∧
      (s.script = [] ∨ ∃ ts, s.script = .engine :: ts))

/-- DOUT changes only at the perform step of a command that completes with OK and produces a value, or at reset
(10_state.md R111; 60_exceptions.md R700). An empty script is the engine's turn (log 6). -/
def Obligations.DoutChangesOnlyWithAnOkResult : Prop :=
  ∀ s t : State, step s = .next t →
    t.dout = s.dout ∨ (∃ ts, s.script = .assertReset :: ts) ∨
    (s.rst = false ∧ s.status.busy = true ∧ (s.script = [] ∨ ∃ ts, s.script = .engine :: ts) ∧
      t.status.res = 0#4 ∧ 2 ≤ (s.pend.w.extractLsb' 0 4).toNat ∧ (s.pend.w.extractLsb' 0 4).toNat ≤ 8)

/-- Host accesses between an issue and its perform step, of any number and to any registers, reach neither the command nor
its result (20_memory.md R212; 70_reset_and_hazards.md R823). The arrays are compared where the spec specifies them, below b
and below r of the configuration active afterwards. -/
def Obligations.HostAccessesDoNotReachThePendingCommand : Prop :=
  ∀ (s : State) (ts : List Turn), s.rst = false → s.status.busy = true →
    (∀ u ∈ ts, (∃ off size, u = .read off size ∧ 0 ≤ off ∧ off < 256) ∨
      (∃ off size v, u = .write off size v ∧ 0 ≤ off ∧ off < 256)) →
    ∃ t t' : State,
      Sys2Proof.core.run (ts.length + 1) ({ s with script := ts ++ [.engine] } : State) = Host.Outcome.next t ∧
      Sys2Proof.core.run 1 ({ s with script := [.engine] } : State) = Host.Outcome.next t' ∧
      t.dout = t'.dout ∧ t.status.res = t'.status.res ∧ t.status.cfgValid = t'.status.cfgValid ∧
      t.aprime = t'.aprime ∧ t.arounds = t'.arounds ∧ t.aboxsize = t'.aboxsize ∧ t.specifiedAgree t'.boxram t'.keyram

/-- A pending command stays pending through any finite run of host accesses, and the step after them performs it
(40_command_config.md R402; 70_reset_and_hazards.md R830). That the step at the empty script is the engine's is the model's
form of weak fairness (log 6). -/
def Obligations.PendingCommandIsEventuallyPerformed : Prop :=
  ∀ s : State, s.rst = false → s.status.busy = true →
    (∀ u ∈ s.script, (∃ off size, u = .read off size ∧ 0 ≤ off ∧ off < 256) ∨
      (∃ off size v, u = .write off size v ∧ 0 ≤ off ∧ off < 256)) →
    ∃ t u : State,
      Sys2Proof.core.run s.script.length s = Host.Outcome.next t ∧ t.script = [] ∧ t.pend = s.pend ∧
      t.status.busy = true ∧ step t = .next u ∧ u.status.busy = false ∧ u.status.done = true

/-! ### The host's text codec (48_host_interface.md) -/

/-- What the codec gives back: the message without the characters of code 0 at odd indexes; so the message exactly when there
is none (R685). -/
def Obligations.CodecDropsZeroCharactersAtOddIndexes : Prop :=
  ∀ (s : State) (m : List Half),
    textDecrypt s.decBlock (textEncrypt s.encBlock m) =
      (m.zipIdx.filter fun ci => !(decide (ci.2 % 2 = 1) && decide (ci.1 = 0#8))).map Prod.fst ∧
    (textDecrypt s.decBlock (textEncrypt s.encBlock m) = m ↔
      ∀ i, i < m.length → i % 2 = 1 → m.getD i 0#8 ≠ 0#8)

/-- The codec encrypts ceil(n/2) blocks, block k packing characters 2k and 2k + 1, the missing last low byte as 0 (R683). -/
def Obligations.CodecPacksTwoCharactersToABlock : Prop :=
  ∀ (enc : Block → Block) (m : List Half),
    (textEncrypt enc m).length = (m.length + 1) / 2 ∧
    ∀ k, k < (m.length + 1) / 2 → (textEncrypt enc m).getD k 0#16 =
      enc (BitVec.ofNat 16 ((m.getD (2 * k) 0#8).toNat * 256 + (m.getD (2 * k + 1) 0#8).toNat))

/-! ### Register words, and runs -/

/-- Every register's word carries its field from bit 0 on and reads 0 above it; CMD reads 0 (10_state.md R102, R104 to R108,
R110 to R112). STATUS stands in `StatusWordLayout`. -/
def Obligations.RegisterWordsCarryTheirFields : Prop :=
  ∀ s : State,
    s.readReg .cmd = 0#32 ∧
    (s.readReg .ctrl).getLsbD 0 = s.irqEn ∧ (s.readReg .ctrl).extractLsb' 1 31 = 0#31 ∧
    (s.readReg .prime).extractLsb' 0 16 = s.prime ∧ (s.readReg .prime).extractLsb' 16 16 = 0#16 ∧
    (s.readReg .rounds).extractLsb' 0 8 = s.rounds ∧ (s.readReg .rounds).extractLsb' 8 24 = 0#24 ∧
    (s.readReg .boxsize).extractLsb' 0 16 = s.boxsize ∧ (s.readReg .boxsize).extractLsb' 16 16 = 0#16 ∧
    s.readReg .seedLo = s.seedLo ∧ s.readReg .seedHi = s.seedHi ∧
    (s.readReg .din).extractLsb' 0 16 = s.din ∧ (s.readReg .din).extractLsb' 16 16 = 0#16 ∧
    (s.readReg .dout).extractLsb' 0 16 = s.dout ∧ (s.readReg .dout).extractLsb' 16 16 = 0#16 ∧
    (s.readReg .aprime).extractLsb' 0 16 = s.aprime ∧ (s.readReg .aprime).extractLsb' 16 16 = 0#16 ∧
    (s.readReg .arounds).extractLsb' 0 8 = s.arounds ∧ (s.readReg .arounds).extractLsb' 8 24 = 0#24 ∧
    (s.readReg .aboxsize).extractLsb' 0 16 = s.aboxsize ∧ (s.readReg .aboxsize).extractLsb' 16 16 = 0#16

/-- No run lets software observe what the spec leaves unspecified (10_state.md R120, R121, R123): two states that differ only
there run, in the same number of steps, to two states that differ only there and have one observation. -/
def Obligations.UnspecifiedContentsAreNeverObservedAlongARun : Prop :=
  ∀ (k : Nat) (s t : State) (box : List BoxEntry) (keys : List Block) (d : Datapath) (n : Nat),
    (s.status.cfgValid = true → 0 < s.activeBox) → s.specifiedAgree box keys →
    Sys2Proof.core.run k s = Host.Outcome.next t →
    ∃ (box' : List BoxEntry) (keys' : List Block) (d' : Datapath) (n' : Nat),
      Sys2Proof.core.run k (s.withUnspecified box keys d n : State) =
        Host.Outcome.next (t.withUnspecified box' keys' d' n' : State) ∧
      (t.status.cfgValid = true → 0 < t.activeBox) ∧ t.specifiedAgree box' keys' ∧
      (t.withUnspecified box' keys' d' n').observation = t.observation

/-- When a run is over, and that it then stays over with its observation whatever turns are left (48_host_interface.md R681;
which turns are the host's, log 28; which reads the observation counts, log 29). -/
def Obligations.FinishedRunKeepsItsObservation : Prop :=
  (∀ s : State, s.runOver = true ↔
    (s.status.busy = false ∧ ∀ u ∈ s.script, u = .engine ∨ u = .releaseReset)) ∧
  (∀ s t : State, s.runOver = true → step s = .next t → t.runOver = true ∧ t.observation = s.observation)
end

