-- ==== Sys2Proof/Laws/State.lean ====
section
/-! SUPPORT. One lemma for each field of each state update, true by unfolding it once, so that no later proof unfolds a
record update. -/

namespace Sys2Proof.Machine

/-! ### writeOneToClear -/

@[simp] theorem Status_writeOneToClear_busy (st : Status) (v : Word) :
    (st.writeOneToClear v).busy = st.busy := rfl

@[simp] theorem Status_writeOneToClear_done (st : Status) (v : Word) :
    (st.writeOneToClear v).done = (st.done && !v.getLsbD 1) := rfl

@[simp] theorem Status_writeOneToClear_cfgValid (st : Status) (v : Word) :
    (st.writeOneToClear v).cfgValid = st.cfgValid := rfl

@[simp] theorem Status_writeOneToClear_ovr (st : Status) (v : Word) :
    (st.writeOneToClear v).ovr = (st.ovr && !v.getLsbD 3) := rfl

@[simp] theorem Status_writeOneToClear_res (st : Status) (v : Word) :
    (st.writeOneToClear v).res = st.res := rfl

/-! ### issued -/

@[simp] theorem Status_issued_busy (st : Status) :
    (st.issued).busy = true := rfl

@[simp] theorem Status_issued_done (st : Status) :
    (st.issued).done = false := rfl

@[simp] theorem Status_issued_cfgValid (st : Status) :
    (st.issued).cfgValid = st.cfgValid := rfl

@[simp] theorem Status_issued_ovr (st : Status) :
    (st.issued).ovr = st.ovr := rfl

@[simp] theorem Status_issued_res (st : Status) :
    (st.issued).res = st.res := rfl

/-! ### dropped -/

@[simp] theorem Status_dropped_busy (st : Status) :
    (st.dropped).busy = st.busy := rfl

@[simp] theorem Status_dropped_done (st : Status) :
    (st.dropped).done = st.done := rfl

@[simp] theorem Status_dropped_cfgValid (st : Status) :
    (st.dropped).cfgValid = st.cfgValid := rfl

@[simp] theorem Status_dropped_ovr (st : Status) :
    (st.dropped).ovr = true := rfl

@[simp] theorem Status_dropped_res (st : Status) :
    (st.dropped).res = st.res := rfl

/-! ### completed -/

@[simp] theorem Status_completed_busy (st : Status) (code : ResultCode) :
    (st.completed code).busy = false := rfl

@[simp] theorem Status_completed_done (st : Status) (code : ResultCode) :
    (st.completed code).done = true := rfl

@[simp] theorem Status_completed_cfgValid (st : Status) (code : ResultCode) :
    (st.completed code).cfgValid = st.cfgValid := rfl

@[simp] theorem Status_completed_ovr (st : Status) (code : ResultCode) :
    (st.completed code).ovr = st.ovr := rfl

@[simp] theorem Status_completed_res (st : Status) (code : ResultCode) :
    (st.completed code).res = code.bits := rfl

/-! ### withCfgValid -/

@[simp] theorem Status_withCfgValid_busy (st : Status) (valid : Bool) :
    (st.withCfgValid valid).busy = st.busy := rfl

@[simp] theorem Status_withCfgValid_done (st : Status) (valid : Bool) :
    (st.withCfgValid valid).done = st.done := rfl

@[simp] theorem Status_withCfgValid_cfgValid (st : Status) (valid : Bool) :
    (st.withCfgValid valid).cfgValid = valid := rfl

@[simp] theorem Status_withCfgValid_ovr (st : Status) (valid : Bool) :
    (st.withCfgValid valid).ovr = st.ovr := rfl

@[simp] theorem Status_withCfgValid_res (st : Status) (valid : Bool) :
    (st.withCfgValid valid).res = st.res := rfl

/-! ### complete -/

@[simp] theorem complete_status (s : State) (code : ResultCode) (out : Option Block) :
    (s.complete code out).status = s.status.completed code := rfl

@[simp] theorem complete_irqEn (s : State) (code : ResultCode) (out : Option Block) :
    (s.complete code out).irqEn = s.irqEn := rfl

@[simp] theorem complete_prime (s : State) (code : ResultCode) (out : Option Block) :
    (s.complete code out).prime = s.prime := rfl

@[simp] theorem complete_rounds (s : State) (code : ResultCode) (out : Option Block) :
    (s.complete code out).rounds = s.rounds := rfl

@[simp] theorem complete_boxsize (s : State) (code : ResultCode) (out : Option Block) :
    (s.complete code out).boxsize = s.boxsize := rfl

@[simp] theorem complete_seedLo (s : State) (code : ResultCode) (out : Option Block) :
    (s.complete code out).seedLo = s.seedLo := rfl

@[simp] theorem complete_seedHi (s : State) (code : ResultCode) (out : Option Block) :
    (s.complete code out).seedHi = s.seedHi := rfl

@[simp] theorem complete_din (s : State) (code : ResultCode) (out : Option Block) :
    (s.complete code out).din = s.din := rfl

@[simp] theorem complete_dout (s : State) (code : ResultCode) (out : Option Block) :
    (s.complete code out).dout = if code = .ok then out.getD s.dout else s.dout := rfl

@[simp] theorem complete_aprime (s : State) (code : ResultCode) (out : Option Block) :
    (s.complete code out).aprime = s.aprime := rfl

@[simp] theorem complete_arounds (s : State) (code : ResultCode) (out : Option Block) :
    (s.complete code out).arounds = s.arounds := rfl

@[simp] theorem complete_aboxsize (s : State) (code : ResultCode) (out : Option Block) :
    (s.complete code out).aboxsize = s.aboxsize := rfl

@[simp] theorem complete_boxram (s : State) (code : ResultCode) (out : Option Block) :
    (s.complete code out).boxram = s.boxram := rfl

@[simp] theorem complete_keyram (s : State) (code : ResultCode) (out : Option Block) :
    (s.complete code out).keyram = s.keyram := rfl

@[simp] theorem complete_pend (s : State) (code : ResultCode) (out : Option Block) :
    (s.complete code out).pend = s.pend := rfl

@[simp] theorem complete_datapath (s : State) (code : ResultCode) (out : Option Block) :
    (s.complete code out).datapath = s.datapath := rfl

@[simp] theorem complete_rst (s : State) (code : ResultCode) (out : Option Block) :
    (s.complete code out).rst = s.rst := rfl

@[simp] theorem complete_script (s : State) (code : ResultCode) (out : Option Block) :
    (s.complete code out).script = s.script := rfl

@[simp] theorem complete_responses (s : State) (code : ResultCode) (out : Option Block) :
    (s.complete code out).responses = s.responses := rfl

@[simp] theorem complete_freeCtr (s : State) (code : ResultCode) (out : Option Block) :
    (s.complete code out).freeCtr = s.freeCtr := rfl

/-! ### raise -/

@[simp] theorem raise_status (s : State) (code : ResultCode) :
    (s.raise code).status = s.status.completed code := rfl

@[simp] theorem raise_irqEn (s : State) (code : ResultCode) :
    (s.raise code).irqEn = s.irqEn := rfl

@[simp] theorem raise_prime (s : State) (code : ResultCode) :
    (s.raise code).prime = s.prime := rfl

@[simp] theorem raise_rounds (s : State) (code : ResultCode) :
    (s.raise code).rounds = s.rounds := rfl

@[simp] theorem raise_boxsize (s : State) (code : ResultCode) :
    (s.raise code).boxsize = s.boxsize := rfl

@[simp] theorem raise_seedLo (s : State) (code : ResultCode) :
    (s.raise code).seedLo = s.seedLo := rfl

@[simp] theorem raise_seedHi (s : State) (code : ResultCode) :
    (s.raise code).seedHi = s.seedHi := rfl

@[simp] theorem raise_din (s : State) (code : ResultCode) :
    (s.raise code).din = s.din := rfl

@[simp] theorem raise_dout (s : State) (code : ResultCode) :
    (s.raise code).dout = s.dout := by
  cases code <;> rfl

@[simp] theorem raise_aprime (s : State) (code : ResultCode) :
    (s.raise code).aprime = s.aprime := rfl

@[simp] theorem raise_arounds (s : State) (code : ResultCode) :
    (s.raise code).arounds = s.arounds := rfl

@[simp] theorem raise_aboxsize (s : State) (code : ResultCode) :
    (s.raise code).aboxsize = s.aboxsize := rfl

@[simp] theorem raise_boxram (s : State) (code : ResultCode) :
    (s.raise code).boxram = s.boxram := rfl

@[simp] theorem raise_keyram (s : State) (code : ResultCode) :
    (s.raise code).keyram = s.keyram := rfl

@[simp] theorem raise_pend (s : State) (code : ResultCode) :
    (s.raise code).pend = s.pend := rfl

@[simp] theorem raise_datapath (s : State) (code : ResultCode) :
    (s.raise code).datapath = s.datapath := rfl

@[simp] theorem raise_rst (s : State) (code : ResultCode) :
    (s.raise code).rst = s.rst := rfl

@[simp] theorem raise_script (s : State) (code : ResultCode) :
    (s.raise code).script = s.script := rfl

@[simp] theorem raise_responses (s : State) (code : ResultCode) :
    (s.raise code).responses = s.responses := rfl

@[simp] theorem raise_freeCtr (s : State) (code : ResultCode) :
    (s.raise code).freeCtr = s.freeCtr := rfl

/-! ### ackStatus -/

@[simp] theorem ackStatus_status (s : State) (v : Word) :
    (s.ackStatus v).status = s.status.writeOneToClear v := rfl

@[simp] theorem ackStatus_irqEn (s : State) (v : Word) :
    (s.ackStatus v).irqEn = s.irqEn := rfl

@[simp] theorem ackStatus_prime (s : State) (v : Word) :
    (s.ackStatus v).prime = s.prime := rfl

@[simp] theorem ackStatus_rounds (s : State) (v : Word) :
    (s.ackStatus v).rounds = s.rounds := rfl

@[simp] theorem ackStatus_boxsize (s : State) (v : Word) :
    (s.ackStatus v).boxsize = s.boxsize := rfl

@[simp] theorem ackStatus_seedLo (s : State) (v : Word) :
    (s.ackStatus v).seedLo = s.seedLo := rfl

@[simp] theorem ackStatus_seedHi (s : State) (v : Word) :
    (s.ackStatus v).seedHi = s.seedHi := rfl

@[simp] theorem ackStatus_din (s : State) (v : Word) :
    (s.ackStatus v).din = s.din := rfl

@[simp] theorem ackStatus_dout (s : State) (v : Word) :
    (s.ackStatus v).dout = s.dout := rfl

@[simp] theorem ackStatus_aprime (s : State) (v : Word) :
    (s.ackStatus v).aprime = s.aprime := rfl

@[simp] theorem ackStatus_arounds (s : State) (v : Word) :
    (s.ackStatus v).arounds = s.arounds := rfl

@[simp] theorem ackStatus_aboxsize (s : State) (v : Word) :
    (s.ackStatus v).aboxsize = s.aboxsize := rfl

@[simp] theorem ackStatus_boxram (s : State) (v : Word) :
    (s.ackStatus v).boxram = s.boxram := rfl

@[simp] theorem ackStatus_keyram (s : State) (v : Word) :
    (s.ackStatus v).keyram = s.keyram := rfl

@[simp] theorem ackStatus_pend (s : State) (v : Word) :
    (s.ackStatus v).pend = s.pend := rfl

@[simp] theorem ackStatus_datapath (s : State) (v : Word) :
    (s.ackStatus v).datapath = s.datapath := rfl

@[simp] theorem ackStatus_rst (s : State) (v : Word) :
    (s.ackStatus v).rst = s.rst := rfl

@[simp] theorem ackStatus_script (s : State) (v : Word) :
    (s.ackStatus v).script = s.script := rfl

@[simp] theorem ackStatus_responses (s : State) (v : Word) :
    (s.ackStatus v).responses = s.responses := rfl

@[simp] theorem ackStatus_freeCtr (s : State) (v : Word) :
    (s.ackStatus v).freeCtr = s.freeCtr := rfl

/-! ### releaseDatapath -/

@[simp] theorem releaseDatapath_status (s : State) :
    (s.releaseDatapath).status = s.status := rfl

@[simp] theorem releaseDatapath_irqEn (s : State) :
    (s.releaseDatapath).irqEn = s.irqEn := rfl

@[simp] theorem releaseDatapath_prime (s : State) :
    (s.releaseDatapath).prime = s.prime := rfl

@[simp] theorem releaseDatapath_rounds (s : State) :
    (s.releaseDatapath).rounds = s.rounds := rfl

@[simp] theorem releaseDatapath_boxsize (s : State) :
    (s.releaseDatapath).boxsize = s.boxsize := rfl

@[simp] theorem releaseDatapath_seedLo (s : State) :
    (s.releaseDatapath).seedLo = s.seedLo := rfl

@[simp] theorem releaseDatapath_seedHi (s : State) :
    (s.releaseDatapath).seedHi = s.seedHi := rfl

@[simp] theorem releaseDatapath_din (s : State) :
    (s.releaseDatapath).din = s.din := rfl

@[simp] theorem releaseDatapath_dout (s : State) :
    (s.releaseDatapath).dout = s.dout := rfl

@[simp] theorem releaseDatapath_aprime (s : State) :
    (s.releaseDatapath).aprime = s.aprime := rfl

@[simp] theorem releaseDatapath_arounds (s : State) :
    (s.releaseDatapath).arounds = s.arounds := rfl

@[simp] theorem releaseDatapath_aboxsize (s : State) :
    (s.releaseDatapath).aboxsize = s.aboxsize := rfl

@[simp] theorem releaseDatapath_boxram (s : State) :
    (s.releaseDatapath).boxram = s.boxram := rfl

@[simp] theorem releaseDatapath_keyram (s : State) :
    (s.releaseDatapath).keyram = s.keyram := rfl

@[simp] theorem releaseDatapath_pend (s : State) :
    (s.releaseDatapath).pend = s.pend := rfl

@[simp] theorem releaseDatapath_datapath (s : State) :
    (s.releaseDatapath).datapath = unspecDatapath s.freeCtr := rfl

@[simp] theorem releaseDatapath_rst (s : State) :
    (s.releaseDatapath).rst = s.rst := rfl

@[simp] theorem releaseDatapath_script (s : State) :
    (s.releaseDatapath).script = s.script := rfl

@[simp] theorem releaseDatapath_responses (s : State) :
    (s.releaseDatapath).responses = s.responses := rfl

@[simp] theorem releaseDatapath_freeCtr (s : State) :
    (s.releaseDatapath).freeCtr = s.freeCtr + 1 := rfl

/-! ### issue -/

@[simp] theorem issue_status (s : State) (w : Word) :
    (s.issue w).status = s.status.issued := rfl

@[simp] theorem issue_irqEn (s : State) (w : Word) :
    (s.issue w).irqEn = s.irqEn := rfl

@[simp] theorem issue_prime (s : State) (w : Word) :
    (s.issue w).prime = s.prime := rfl

@[simp] theorem issue_rounds (s : State) (w : Word) :
    (s.issue w).rounds = s.rounds := rfl

@[simp] theorem issue_boxsize (s : State) (w : Word) :
    (s.issue w).boxsize = s.boxsize := rfl

@[simp] theorem issue_seedLo (s : State) (w : Word) :
    (s.issue w).seedLo = s.seedLo := rfl

@[simp] theorem issue_seedHi (s : State) (w : Word) :
    (s.issue w).seedHi = s.seedHi := rfl

@[simp] theorem issue_din (s : State) (w : Word) :
    (s.issue w).din = s.din := rfl

@[simp] theorem issue_dout (s : State) (w : Word) :
    (s.issue w).dout = s.dout := rfl

@[simp] theorem issue_aprime (s : State) (w : Word) :
    (s.issue w).aprime = s.aprime := rfl

@[simp] theorem issue_arounds (s : State) (w : Word) :
    (s.issue w).arounds = s.arounds := rfl

@[simp] theorem issue_aboxsize (s : State) (w : Word) :
    (s.issue w).aboxsize = s.aboxsize := rfl

@[simp] theorem issue_boxram (s : State) (w : Word) :
    (s.issue w).boxram = s.boxram := rfl

@[simp] theorem issue_keyram (s : State) (w : Word) :
    (s.issue w).keyram = s.keyram := rfl

@[simp] theorem issue_pend (s : State) (w : Word) :
    (s.issue w).pend = 
      { w := w, din := s.din, sp := s.prime, sr := s.rounds, sb := s.boxsize, sseed := s.seedHi ++ s.seedLo } := rfl

@[simp] theorem issue_datapath (s : State) (w : Word) :
    (s.issue w).datapath = s.datapath := rfl

@[simp] theorem issue_rst (s : State) (w : Word) :
    (s.issue w).rst = s.rst := rfl

@[simp] theorem issue_script (s : State) (w : Word) :
    (s.issue w).script = s.script := rfl

@[simp] theorem issue_responses (s : State) (w : Word) :
    (s.issue w).responses = s.responses := rfl

@[simp] theorem issue_freeCtr (s : State) (w : Word) :
    (s.issue w).freeCtr = s.freeCtr := rfl

/-! ### drop -/

@[simp] theorem drop_status (s : State) :
    (s.drop).status = s.status.dropped := rfl

@[simp] theorem drop_irqEn (s : State) :
    (s.drop).irqEn = s.irqEn := rfl

@[simp] theorem drop_prime (s : State) :
    (s.drop).prime = s.prime := rfl

@[simp] theorem drop_rounds (s : State) :
    (s.drop).rounds = s.rounds := rfl

@[simp] theorem drop_boxsize (s : State) :
    (s.drop).boxsize = s.boxsize := rfl

@[simp] theorem drop_seedLo (s : State) :
    (s.drop).seedLo = s.seedLo := rfl

@[simp] theorem drop_seedHi (s : State) :
    (s.drop).seedHi = s.seedHi := rfl

@[simp] theorem drop_din (s : State) :
    (s.drop).din = s.din := rfl

@[simp] theorem drop_dout (s : State) :
    (s.drop).dout = s.dout := rfl

@[simp] theorem drop_aprime (s : State) :
    (s.drop).aprime = s.aprime := rfl

@[simp] theorem drop_arounds (s : State) :
    (s.drop).arounds = s.arounds := rfl

@[simp] theorem drop_aboxsize (s : State) :
    (s.drop).aboxsize = s.aboxsize := rfl

@[simp] theorem drop_boxram (s : State) :
    (s.drop).boxram = s.boxram := rfl

@[simp] theorem drop_keyram (s : State) :
    (s.drop).keyram = s.keyram := rfl

@[simp] theorem drop_pend (s : State) :
    (s.drop).pend = s.pend := rfl

@[simp] theorem drop_datapath (s : State) :
    (s.drop).datapath = s.datapath := rfl

@[simp] theorem drop_rst (s : State) :
    (s.drop).rst = s.rst := rfl

@[simp] theorem drop_script (s : State) :
    (s.drop).script = s.script := rfl

@[simp] theorem drop_responses (s : State) :
    (s.drop).responses = s.responses := rfl

@[simp] theorem drop_freeCtr (s : State) :
    (s.drop).freeCtr = s.freeCtr := rfl

/-! ### respond -/

@[simp] theorem respond_status (s : State) (r : Response) :
    (s.respond r).status = s.status := rfl

@[simp] theorem respond_irqEn (s : State) (r : Response) :
    (s.respond r).irqEn = s.irqEn := rfl

@[simp] theorem respond_prime (s : State) (r : Response) :
    (s.respond r).prime = s.prime := rfl

@[simp] theorem respond_rounds (s : State) (r : Response) :
    (s.respond r).rounds = s.rounds := rfl

@[simp] theorem respond_boxsize (s : State) (r : Response) :
    (s.respond r).boxsize = s.boxsize := rfl

@[simp] theorem respond_seedLo (s : State) (r : Response) :
    (s.respond r).seedLo = s.seedLo := rfl

@[simp] theorem respond_seedHi (s : State) (r : Response) :
    (s.respond r).seedHi = s.seedHi := rfl

@[simp] theorem respond_din (s : State) (r : Response) :
    (s.respond r).din = s.din := rfl

@[simp] theorem respond_dout (s : State) (r : Response) :
    (s.respond r).dout = s.dout := rfl

@[simp] theorem respond_aprime (s : State) (r : Response) :
    (s.respond r).aprime = s.aprime := rfl

@[simp] theorem respond_arounds (s : State) (r : Response) :
    (s.respond r).arounds = s.arounds := rfl

@[simp] theorem respond_aboxsize (s : State) (r : Response) :
    (s.respond r).aboxsize = s.aboxsize := rfl

@[simp] theorem respond_boxram (s : State) (r : Response) :
    (s.respond r).boxram = s.boxram := rfl

@[simp] theorem respond_keyram (s : State) (r : Response) :
    (s.respond r).keyram = s.keyram := rfl

@[simp] theorem respond_pend (s : State) (r : Response) :
    (s.respond r).pend = s.pend := rfl

@[simp] theorem respond_datapath (s : State) (r : Response) :
    (s.respond r).datapath = s.datapath := rfl

@[simp] theorem respond_rst (s : State) (r : Response) :
    (s.respond r).rst = s.rst := rfl

@[simp] theorem respond_script (s : State) (r : Response) :
    (s.respond r).script = s.script := rfl

@[simp] theorem respond_responses (s : State) (r : Response) :
    (s.respond r).responses = r :: s.responses := rfl

@[simp] theorem respond_freeCtr (s : State) (r : Response) :
    (s.respond r).freeCtr = s.freeCtr := rfl

/-! ### releaseReset -/

@[simp] theorem releaseReset_status (s : State) :
    (s.releaseReset).status = s.status := rfl

@[simp] theorem releaseReset_irqEn (s : State) :
    (s.releaseReset).irqEn = s.irqEn := rfl

@[simp] theorem releaseReset_prime (s : State) :
    (s.releaseReset).prime = s.prime := rfl

@[simp] theorem releaseReset_rounds (s : State) :
    (s.releaseReset).rounds = s.rounds := rfl

@[simp] theorem releaseReset_boxsize (s : State) :
    (s.releaseReset).boxsize = s.boxsize := rfl

@[simp] theorem releaseReset_seedLo (s : State) :
    (s.releaseReset).seedLo = s.seedLo := rfl

@[simp] theorem releaseReset_seedHi (s : State) :
    (s.releaseReset).seedHi = s.seedHi := rfl

@[simp] theorem releaseReset_din (s : State) :
    (s.releaseReset).din = s.din := rfl

@[simp] theorem releaseReset_dout (s : State) :
    (s.releaseReset).dout = s.dout := rfl

@[simp] theorem releaseReset_aprime (s : State) :
    (s.releaseReset).aprime = s.aprime := rfl

@[simp] theorem releaseReset_arounds (s : State) :
    (s.releaseReset).arounds = s.arounds := rfl

@[simp] theorem releaseReset_aboxsize (s : State) :
    (s.releaseReset).aboxsize = s.aboxsize := rfl

@[simp] theorem releaseReset_boxram (s : State) :
    (s.releaseReset).boxram = s.boxram := rfl

@[simp] theorem releaseReset_keyram (s : State) :
    (s.releaseReset).keyram = s.keyram := rfl

@[simp] theorem releaseReset_pend (s : State) :
    (s.releaseReset).pend = s.pend := rfl

@[simp] theorem releaseReset_datapath (s : State) :
    (s.releaseReset).datapath = s.datapath := rfl

@[simp] theorem releaseReset_rst (s : State) :
    (s.releaseReset).rst = false := rfl

@[simp] theorem releaseReset_script (s : State) :
    (s.releaseReset).script = s.script := rfl

@[simp] theorem releaseReset_responses (s : State) :
    (s.releaseReset).responses = s.responses := rfl

@[simp] theorem releaseReset_freeCtr (s : State) :
    (s.releaseReset).freeCtr = s.freeCtr := rfl

/-! ### assertReset -/

@[simp] theorem assertReset_status (s : State) :
    (s.assertReset).status = State.reset.status := rfl

@[simp] theorem assertReset_irqEn (s : State) :
    (s.assertReset).irqEn = State.reset.irqEn := rfl

@[simp] theorem assertReset_prime (s : State) :
    (s.assertReset).prime = State.reset.prime := rfl

@[simp] theorem assertReset_rounds (s : State) :
    (s.assertReset).rounds = State.reset.rounds := rfl

@[simp] theorem assertReset_boxsize (s : State) :
    (s.assertReset).boxsize = State.reset.boxsize := rfl

@[simp] theorem assertReset_seedLo (s : State) :
    (s.assertReset).seedLo = State.reset.seedLo := rfl

@[simp] theorem assertReset_seedHi (s : State) :
    (s.assertReset).seedHi = State.reset.seedHi := rfl

@[simp] theorem assertReset_din (s : State) :
    (s.assertReset).din = State.reset.din := rfl

@[simp] theorem assertReset_dout (s : State) :
    (s.assertReset).dout = State.reset.dout := rfl

@[simp] theorem assertReset_aprime (s : State) :
    (s.assertReset).aprime = State.reset.aprime := rfl

@[simp] theorem assertReset_arounds (s : State) :
    (s.assertReset).arounds = State.reset.arounds := rfl

@[simp] theorem assertReset_aboxsize (s : State) :
    (s.assertReset).aboxsize = State.reset.aboxsize := rfl

@[simp] theorem assertReset_boxram (s : State) :
    (s.assertReset).boxram = boxContents s.freeCtr 0 (fun _ => 0#4) := rfl

@[simp] theorem assertReset_keyram (s : State) :
    (s.assertReset).keyram = keyContents s.freeCtr 0 (fun _ => 0#16) := rfl

@[simp] theorem assertReset_pend (s : State) :
    (s.assertReset).pend = State.reset.pend := rfl

@[simp] theorem assertReset_datapath (s : State) :
    (s.assertReset).datapath = unspecDatapath s.freeCtr := rfl

@[simp] theorem assertReset_rst (s : State) :
    (s.assertReset).rst = true := rfl

@[simp] theorem assertReset_script (s : State) :
    (s.assertReset).script = s.script := rfl

@[simp] theorem assertReset_responses (s : State) :
    (s.assertReset).responses = s.responses := rfl

@[simp] theorem assertReset_freeCtr (s : State) :
    (s.assertReset).freeCtr = s.freeCtr + 1 := rfl

/-! ### placeCommand -/

@[simp] theorem placeCommand_status (s : State) (w : Word) :
    (s.placeCommand w).status = s.status.issued := rfl

@[simp] theorem placeCommand_irqEn (s : State) (w : Word) :
    (s.placeCommand w).irqEn = s.irqEn := rfl

@[simp] theorem placeCommand_prime (s : State) (w : Word) :
    (s.placeCommand w).prime = s.prime := rfl

@[simp] theorem placeCommand_rounds (s : State) (w : Word) :
    (s.placeCommand w).rounds = s.rounds := rfl

@[simp] theorem placeCommand_boxsize (s : State) (w : Word) :
    (s.placeCommand w).boxsize = s.boxsize := rfl

@[simp] theorem placeCommand_seedLo (s : State) (w : Word) :
    (s.placeCommand w).seedLo = s.seedLo := rfl

@[simp] theorem placeCommand_seedHi (s : State) (w : Word) :
    (s.placeCommand w).seedHi = s.seedHi := rfl

@[simp] theorem placeCommand_din (s : State) (w : Word) :
    (s.placeCommand w).din = s.din := rfl

@[simp] theorem placeCommand_dout (s : State) (w : Word) :
    (s.placeCommand w).dout = s.dout := rfl

@[simp] theorem placeCommand_aprime (s : State) (w : Word) :
    (s.placeCommand w).aprime = s.aprime := rfl

@[simp] theorem placeCommand_arounds (s : State) (w : Word) :
    (s.placeCommand w).arounds = s.arounds := rfl

@[simp] theorem placeCommand_aboxsize (s : State) (w : Word) :
    (s.placeCommand w).aboxsize = s.aboxsize := rfl

@[simp] theorem placeCommand_boxram (s : State) (w : Word) :
    (s.placeCommand w).boxram = s.boxram := rfl

@[simp] theorem placeCommand_keyram (s : State) (w : Word) :
    (s.placeCommand w).keyram = s.keyram := rfl

@[simp] theorem placeCommand_pend (s : State) (w : Word) :
    (s.placeCommand w).pend = 
      { w := w, din := s.din, sp := s.prime, sr := s.rounds, sb := s.boxsize, sseed := s.seedHi ++ s.seedLo } := rfl

@[simp] theorem placeCommand_datapath (s : State) (w : Word) :
    (s.placeCommand w).datapath = s.datapath := rfl

@[simp] theorem placeCommand_rst (s : State) (w : Word) :
    (s.placeCommand w).rst = false := rfl

@[simp] theorem placeCommand_script (s : State) (w : Word) :
    (s.placeCommand w).script = .engine :: s.script := rfl

@[simp] theorem placeCommand_responses (s : State) (w : Word) :
    (s.placeCommand w).responses = s.responses := rfl

@[simp] theorem placeCommand_freeCtr (s : State) (w : Word) :
    (s.placeCommand w).freeCtr = s.freeCtr := rfl

/-! ### succeedConfigure -/

@[simp] theorem succeedConfigure_status (s : State) (p r b : Nat) (seed : Int) :
    (s.succeedConfigure p r b seed).status = (s.status.withCfgValid true).completed .ok := rfl

@[simp] theorem succeedConfigure_irqEn (s : State) (p r b : Nat) (seed : Int) :
    (s.succeedConfigure p r b seed).irqEn = s.irqEn := rfl

@[simp] theorem succeedConfigure_prime (s : State) (p r b : Nat) (seed : Int) :
    (s.succeedConfigure p r b seed).prime = s.prime := rfl

@[simp] theorem succeedConfigure_rounds (s : State) (p r b : Nat) (seed : Int) :
    (s.succeedConfigure p r b seed).rounds = s.rounds := rfl

@[simp] theorem succeedConfigure_boxsize (s : State) (p r b : Nat) (seed : Int) :
    (s.succeedConfigure p r b seed).boxsize = s.boxsize := rfl

@[simp] theorem succeedConfigure_seedLo (s : State) (p r b : Nat) (seed : Int) :
    (s.succeedConfigure p r b seed).seedLo = s.seedLo := rfl

@[simp] theorem succeedConfigure_seedHi (s : State) (p r b : Nat) (seed : Int) :
    (s.succeedConfigure p r b seed).seedHi = s.seedHi := rfl

@[simp] theorem succeedConfigure_din (s : State) (p r b : Nat) (seed : Int) :
    (s.succeedConfigure p r b seed).din = s.din := rfl

@[simp] theorem succeedConfigure_dout (s : State) (p r b : Nat) (seed : Int) :
    (s.succeedConfigure p r b seed).dout = s.dout := rfl

@[simp] theorem succeedConfigure_aprime (s : State) (p r b : Nat) (seed : Int) :
    (s.succeedConfigure p r b seed).aprime = BitVec.ofNat 16 p := rfl

@[simp] theorem succeedConfigure_arounds (s : State) (p r b : Nat) (seed : Int) :
    (s.succeedConfigure p r b seed).arounds = BitVec.ofNat 8 r := rfl

@[simp] theorem succeedConfigure_aboxsize (s : State) (p r b : Nat) (seed : Int) :
    (s.succeedConfigure p r b seed).aboxsize = BitVec.ofNat 16 b := rfl

@[simp] theorem succeedConfigure_boxram (s : State) (p r b : Nat) (seed : Int) :
    (s.succeedConfigure p r b seed).boxram = 
      boxContents s.freeCtr b (fun j => BitVec.ofNat 4 (digitOf Config.dseqPhase p j)) := rfl

@[simp] theorem succeedConfigure_keyram (s : State) (p r b : Nat) (seed : Int) :
    (s.succeedConfigure p r b seed).keyram = 
      keyContents s.freeCtr r (fun i => BitVec.ofNat 16 ((keySchedule Config.ksKdf seed p r).getD i 0)) := rfl

@[simp] theorem succeedConfigure_pend (s : State) (p r b : Nat) (seed : Int) :
    (s.succeedConfigure p r b seed).pend = s.pend := rfl

@[simp] theorem succeedConfigure_datapath (s : State) (p r b : Nat) (seed : Int) :
    (s.succeedConfigure p r b seed).datapath = s.datapath := rfl

@[simp] theorem succeedConfigure_rst (s : State) (p r b : Nat) (seed : Int) :
    (s.succeedConfigure p r b seed).rst = s.rst := rfl

@[simp] theorem succeedConfigure_script (s : State) (p r b : Nat) (seed : Int) :
    (s.succeedConfigure p r b seed).script = s.script := rfl

@[simp] theorem succeedConfigure_responses (s : State) (p r b : Nat) (seed : Int) :
    (s.succeedConfigure p r b seed).responses = s.responses := rfl

@[simp] theorem succeedConfigure_freeCtr (s : State) (p r b : Nat) (seed : Int) :
    (s.succeedConfigure p r b seed).freeCtr = s.freeCtr + 1 := rfl

/-! ### failConfigure -/

@[simp] theorem failConfigure_status (s : State) (code : ResultCode) :
    (s.failConfigure code).status = (s.status.withCfgValid false).completed code := rfl

@[simp] theorem failConfigure_irqEn (s : State) (code : ResultCode) :
    (s.failConfigure code).irqEn = s.irqEn := rfl

@[simp] theorem failConfigure_prime (s : State) (code : ResultCode) :
    (s.failConfigure code).prime = s.prime := rfl

@[simp] theorem failConfigure_rounds (s : State) (code : ResultCode) :
    (s.failConfigure code).rounds = s.rounds := rfl

@[simp] theorem failConfigure_boxsize (s : State) (code : ResultCode) :
    (s.failConfigure code).boxsize = s.boxsize := rfl

@[simp] theorem failConfigure_seedLo (s : State) (code : ResultCode) :
    (s.failConfigure code).seedLo = s.seedLo := rfl

@[simp] theorem failConfigure_seedHi (s : State) (code : ResultCode) :
    (s.failConfigure code).seedHi = s.seedHi := rfl

@[simp] theorem failConfigure_din (s : State) (code : ResultCode) :
    (s.failConfigure code).din = s.din := rfl

@[simp] theorem failConfigure_dout (s : State) (code : ResultCode) :
    (s.failConfigure code).dout = s.dout := by
  cases code <;> rfl

@[simp] theorem failConfigure_aprime (s : State) (code : ResultCode) :
    (s.failConfigure code).aprime = 0#16 := rfl

@[simp] theorem failConfigure_arounds (s : State) (code : ResultCode) :
    (s.failConfigure code).arounds = 0#8 := rfl

@[simp] theorem failConfigure_aboxsize (s : State) (code : ResultCode) :
    (s.failConfigure code).aboxsize = 0#16 := rfl

@[simp] theorem failConfigure_boxram (s : State) (code : ResultCode) :
    (s.failConfigure code).boxram = boxContents s.freeCtr 0 (fun _ => 0#4) := rfl

@[simp] theorem failConfigure_keyram (s : State) (code : ResultCode) :
    (s.failConfigure code).keyram = keyContents s.freeCtr 0 (fun _ => 0#16) := rfl

@[simp] theorem failConfigure_pend (s : State) (code : ResultCode) :
    (s.failConfigure code).pend = s.pend := rfl

@[simp] theorem failConfigure_datapath (s : State) (code : ResultCode) :
    (s.failConfigure code).datapath = s.datapath := rfl

@[simp] theorem failConfigure_rst (s : State) (code : ResultCode) :
    (s.failConfigure code).rst = s.rst := rfl

@[simp] theorem failConfigure_script (s : State) (code : ResultCode) :
    (s.failConfigure code).script = s.script := rfl

@[simp] theorem failConfigure_responses (s : State) (code : ResultCode) :
    (s.failConfigure code).responses = s.responses := rfl

@[simp] theorem failConfigure_freeCtr (s : State) (code : ResultCode) :
    (s.failConfigure code).freeCtr = s.freeCtr + 1 := rfl

end Sys2Proof.Machine
end

