-- ==== Sys2Proof/Laws/Ops.lean ====
section
/-! SUPPORT. For each shared operation, one lemma that says once everything it can do. -/

namespace Sys2Proof.Machine

/-! ### Arrays -/

@[simp] theorem fillFrom_length {w : Nat} (f : Nat → BitVec w) (start n : Nat) : (fillFrom f start n).length = n := by
  induction n generalizing start with
  | zero => rfl
  | succ n ih => simp [fillFrom, ih]

theorem fillFrom_getD {w : Nat} (f : Nat → BitVec w) (d : BitVec w) (start n i : Nat) (h : i < n) :
    (fillFrom f start n).getD i d = f (start + i) := by
  induction n generalizing start i with
  | zero => omega
  | succ n ih =>
    cases i with
    | zero => simp [fillFrom]
    | succ i =>
      have := ih (start + 1) i (by omega)
      simpa [fillFrom, Nat.add_assoc, Nat.add_comm 1 i] using this

@[simp] theorem fillArray_length {w : Nat} (n : Nat) (f : Nat → BitVec w) : (fillArray n f).length = n :=
  fillFrom_length f 0 n

theorem fillArray_getD {w : Nat} (n : Nat) (f : Nat → BitVec w) (d : BitVec w) (i : Nat) (h : i < n) :
    (fillArray n f).getD i d = f i := by
  simpa [fillArray] using fillFrom_getD f d 0 n i h

/-- Reading an entry of a filled array. -/
theorem readArray_fillArray {w : Nat} (n : Nat) (f : Nat → BitVec w) (i : Nat) (h : i < n) :
    readArray (fillArray n f) i = (f i).toNat := by
  rw [readArray, fillArray_getD n f _ i h]

theorem readArray_lt {w : Nat} (ram : List (BitVec w)) (i : Nat) : readArray ram i < 2 ^ w := BitVec.isLt _

@[simp] theorem boxContents_length (draw b : Nat) (f : Nat → BoxEntry) :
    (boxContents draw b f).length = Config.boxMax := fillArray_length _ _

@[simp] theorem keyContents_length (draw r : Nat) (f : Nat → Block) :
    (keyContents draw r f).length = Config.roundsMax := fillArray_length _ _

/-- BOXRAM below the box size holds what was built. -/
theorem boxContents_getD (draw b : Nat) (f : Nat → BoxEntry) (d : BoxEntry) (j : Nat) (hb : j < b)
    (hm : j < Config.boxMax) : (boxContents draw b f).getD j d = f j := by
  rw [boxContents, fillArray_getD _ _ _ _ hm, if_pos hb]

/-- KEYRAM below the round count holds what was built. -/
theorem keyContents_getD (draw r : Nat) (f : Nat → Block) (d : Block) (i : Nat) (hr : i < r)
    (hm : i < Config.roundsMax) : (keyContents draw r f).getD i d = f i := by
  rw [keyContents, fillArray_getD _ _ _ _ hm, if_pos hr]

theorem readArray_boxContents (draw b : Nat) (f : Nat → BoxEntry) (j : Nat) (hb : j < b) (hm : j < Config.boxMax) :
    readArray (boxContents draw b f) j = (f j).toNat := by
  rw [readArray, boxContents_getD draw b f _ j hb hm]

theorem readArray_keyContents (draw r : Nat) (f : Nat → Block) (i : Nat) (hr : i < r) (hm : i < Config.roundsMax) :
    readArray (keyContents draw r f) i = (f i).toNat := by
  rw [readArray, keyContents_getD draw r f _ i hr hm]

/-! ### Result codes -/

theorem ResultCode_bits_le (code : ResultCode) : code.bits.toNat ≤ 7 := by cases code <;> decide

theorem ResultCode_bits_injective (c d : ResultCode) (h : c.bits = d.bits) : c = d := by
  cases c <;> cases d <;> first | rfl | exact absurd h (by decide)

/-! ### Commands that need a configuration -/

/-- What a command that needs a configuration can do (40_command_config.md R408). -/
theorem whenConfigured_cases (s own : State) :
    (s.status.cfgValid = true ∧ s.whenConfigured own = own) ∨
    (s.status.cfgValid = false ∧ s.whenConfigured own = s.raise .notConfigured) := by
  cases h : s.status.cfgValid
  · exact .inr ⟨rfl, by simp [State.whenConfigured, h]⟩
  · exact .inl ⟨rfl, by simp [State.whenConfigured, h]⟩

/-! ### The register window -/

@[simp] theorem regAt_regOffset (r : Reg) : regAt (regOffset r) = some r := by cases r <;> rfl

/-- A register stands at its own offset alone. -/
theorem regAt_some (off : Nat) (r : Reg) (h : regAt off = some r) : off = regOffset r := by
  unfold regAt at h
  split at h <;> first | (cases h; rfl) | cases h

theorem readOffset_regOffset (s : State) (r : Reg) : s.readOffset (regOffset r) = s.readReg r := by
  simp [State.readOffset]

theorem writeOffset_regOffset (s : State) (r : Reg) (v : Word) : s.writeOffset (regOffset r) v = s.writeReg r v := by
  simp [State.writeOffset]

theorem readOffset_reserved (s : State) (off : Nat) (h : regAt off = none) : s.readOffset off = 0#32 := by
  simp [State.readOffset, h]

theorem writeOffset_reserved (s : State) (off : Nat) (v : Word) (h : regAt off = none) : s.writeOffset off v = s := by
  simp [State.writeOffset, h]

/-- What a write of CMD can do (40_command_config.md R400, R401). -/
theorem writeCmd_cases (s : State) (w : Word) :
    (s.status.busy = true ∧ s.writeCmd w = s.drop) ∨ (s.status.busy = false ∧ s.writeCmd w = s.issue w) := by
  cases h : s.status.busy
  · exact .inr ⟨rfl, by simp [State.writeCmd, h]⟩
  · exact .inl ⟨rfl, by simp [State.writeCmd, h]⟩

/-- What no register write touches (20_memory.md R201, 10_state.md R109). -/
theorem writeReg_frame (s : State) (r : Reg) (v : Word) :
    (s.writeReg r v).status.cfgValid = s.status.cfgValid ∧ (s.writeReg r v).status.res = s.status.res ∧
    (s.writeReg r v).dout = s.dout ∧ (s.writeReg r v).aprime = s.aprime ∧ (s.writeReg r v).arounds = s.arounds ∧
    (s.writeReg r v).aboxsize = s.aboxsize ∧ (s.writeReg r v).boxram = s.boxram ∧ (s.writeReg r v).keyram = s.keyram ∧
    (s.writeReg r v).datapath = s.datapath ∧ (s.writeReg r v).rst = s.rst ∧ (s.writeReg r v).script = s.script ∧
    (s.writeReg r v).responses = s.responses ∧ (s.writeReg r v).freeCtr = s.freeCtr := by
  cases r
  case cmd =>
    obtain ⟨-, h⟩ | ⟨-, h⟩ := writeCmd_cases s v <;> simp [State.writeReg, h]
  all_goals simp [State.writeReg]

/-- A register write keeps BUSY unless it issues, and a pending command keeps PEND (40_command_config.md R400, R401). -/
theorem writeReg_busy (s : State) (r : Reg) (v : Word) (h : s.status.busy = true) :
    (s.writeReg r v).status.busy = true ∧ (s.writeReg r v).pend = s.pend := by
  cases r
  case cmd => simp [State.writeReg, State.writeCmd, h]
  all_goals simp [State.writeReg, h]

/-- A write at an offset is a register write or nothing. -/
theorem writeOffset_cases (s : State) (off : Nat) (v : Word) :
    (∃ r, off = regOffset r ∧ s.writeOffset off v = s.writeReg r v) ∨ (regAt off = none ∧ s.writeOffset off v = s) := by
  cases h : regAt off with
  | none => exact .inr ⟨rfl, writeOffset_reserved s off v h⟩
  | some r => exact .inl ⟨r, regAt_some off r h, by simp [State.writeOffset, h]⟩

/-! ### The configuration checks -/

/-- What the checks passed when CONFIGURE succeeds (40_command_config.md R404). -/
theorem checkConfig_ok (boxMax p b r : Nat) (h : checkConfig boxMax p b r = .ok) :
    5 ≤ p ∧ isPrime p = true ∧ 1 ≤ b ∧ b ≤ p - 1 ∧ b ≤ boxMax ∧ 1 ≤ r := by
  unfold checkConfig at h
  split at h
  · cases h
  · next hp =>
    split at h
    · cases h
    · split at h
      · cases h
      · split at h
        · cases h
        · rw [not_or, Bool.not_eq_false] at hp
          exact ⟨by omega, hp.2, by omega, by omega, by omega, by omega⟩

/-! ### The key schedule -/

@[simp] theorem keysFrom_length (kdf : Int → Nat → Nat → Nat) (p : Nat) (cur : Int) (i n : Nat) :
    (keysFrom kdf p cur i n).length = n := by
  induction n generalizing cur i with
  | zero => rfl
  | succ n ih => simp [keysFrom, ih]

/-! ### The remainders of the long division -/

theorem remainder_zero (p : Nat) : remainder p 0 = 1 := rfl

theorem remainder_succ (p k : Nat) : remainder p (k + 1) = (remainder p k * 10) % p := rfl

end Sys2Proof.Machine
end

