-- ==== Sys2Proof/Laws/PerInstr.lean ====
section
/-! SUPPORT. A statement for every command of Instr, one lemma for each constructor: a well-formed command is encoded with
both reserved fields 0 (30_encoding.md R300, R302). -/

namespace Sys2Proof.Laws.ReservedFieldsZero

/-- The encoding of a well-formed command has RSV0 = 0 and RSV1 = 0 (30_encoding.md R302). -/
def Statement (i : Instr) : Prop :=
  i.wellFormed = true → rsv0Field (encode i) = 0#4 ∧ rsv1Field (encode i) = 0#16

theorem nop : Statement .nop := fun _ => by decide

theorem configure : Statement .configure := fun _ => by decide

theorem encrypt : Statement .encrypt := fun _ => by decide

theorem decrypt : Statement .decrypt := fun _ => by decide

theorem mix : Statement .mix := fun _ => by decide

theorem sbox : Statement .sbox := fun _ => by decide

theorem digit : Statement .digit := fun _ => by decide

/-- An 8-bit index shifted into IDX leaves bits 7:4 and 31:16 at 0. -/
theorem indexed_fields (idx op : Nat) (hi : idx < 256) (ho : op < 16) :
    rsv0Field ((BitVec.ofNat 32 idx <<< 8) ||| BitVec.ofNat 32 op) = 0#4 ∧
    rsv1Field ((BitVec.ofNat 32 idx <<< 8) ||| BitVec.ofNat 32 op) = 0#16 := by
  have h1 : ∀ k, 8 ≤ k → idx.testBit k = false := fun k hk =>
    Nat.testBit_lt_two_pow (lt_of_lt_of_le hi (Nat.pow_le_pow_right (n := 2) (by omega) hk))
  have h2 : ∀ k, 4 ≤ k → op.testBit k = false := fun k hk =>
    Nat.testBit_lt_two_pow (lt_of_lt_of_le ho (Nat.pow_le_pow_right (n := 2) (by omega) hk))
  constructor
  · apply BitVec.eq_of_getLsbD_eq
    intro k hk
    have e2 := h2 (4 + k) (by omega)
    simp only [rsv0Field, BitVec.getLsbD_extractLsb', BitVec.getLsbD_or, BitVec.getLsbD_shiftLeft,
      BitVec.getLsbD_ofNat, e2]
    have : (4 + k < 8) := by omega
    simp [this]
  · apply BitVec.eq_of_getLsbD_eq
    intro k hk
    have e1 := h1 (16 + k - 8) (by omega)
    have e2 := h2 (16 + k) (by omega)
    simp only [rsv1Field, BitVec.getLsbD_extractLsb', BitVec.getLsbD_or, BitVec.getLsbD_shiftLeft,
      BitVec.getLsbD_ofNat, e1, e2]
    simp

theorem fround (idx : Nat) : Statement (.fround idx) := fun h =>
  indexed_fields idx 4 (by simpa [Instr.wellFormed] using h) (by decide)

theorem rkey (idx : Nat) : Statement (.rkey idx) := fun h =>
  indexed_fields idx 8 (by simpa [Instr.wellFormed] using h) (by decide)

end Sys2Proof.Laws.ReservedFieldsZero
end

