-- ==== Sys2Proof/Laws/Step.lean ====
section
/-! SUPPORT. What a step can do, said once: one inversion lemma for each meaning, for the engine, for the bus and for the
step. -/

namespace Sys2Proof.Machine

/-! ### The meanings -/

theorem execNop_next (s t : State) (h : execNop s = .next t) : t = s.complete .ok none := by
  cases h; rfl

theorem execConfigure_next (s t : State) (h : execConfigure s = .next t) :
    (checkConfig Config.boxMax s.stagedPrime s.stagedBox s.stagedRounds = .ok ∧
      t = s.succeedConfigure s.stagedPrime s.stagedRounds s.stagedBox s.stagedSeed) ∨
    (∃ code, code ≠ .ok ∧ checkConfig Config.boxMax s.stagedPrime s.stagedBox s.stagedRounds = code ∧
      t = s.failConfigure code) := by
  simp only [execConfigure, Host.Outcome.next.injEq] at h
  split at h
  · next hc => exact .inl ⟨hc, h.symm⟩
  · next code hne => exact .inr ⟨_, hne, rfl, h.symm⟩

theorem execEncrypt_next (s t : State) (h : execEncrypt s = .next t) :
    (s.status.cfgValid = true ∧ t = (s.complete .ok (some (s.encBlock s.blockOperand))).releaseDatapath) ∨
    (s.status.cfgValid = false ∧ t = s.raise .notConfigured) := by
  cases h
  exact whenConfigured_cases s _

theorem execDecrypt_next (s t : State) (h : execDecrypt s = .next t) :
    (s.status.cfgValid = true ∧ t = (s.complete .ok (some (s.decBlock s.blockOperand))).releaseDatapath) ∨
    (s.status.cfgValid = false ∧ t = s.raise .notConfigured) := by
  cases h
  exact whenConfigured_cases s _

theorem execMix_next (s t : State) (h : execMix s = .next t) :
    (s.status.cfgValid = true ∧ t = s.complete .ok (some (BitVec.ofNat 16 (s.mixValue s.valueOperand)))) ∨
    (s.status.cfgValid = false ∧ t = s.raise .notConfigured) := by
  cases h
  exact whenConfigured_cases s _

theorem execSbox_next (s t : State) (h : execSbox s = .next t) :
    (s.status.cfgValid = true ∧ t = s.complete .ok (some (BitVec.ofNat 16 (s.boxLookup s.valueOperand)))) ∨
    (s.status.cfgValid = false ∧ t = s.raise .notConfigured) := by
  cases h
  exact whenConfigured_cases s _

theorem execFround_next (idx : Nat) (s t : State) (h : execFround idx s = .next t) :
    (s.status.cfgValid = true ∧ idx < s.activeRounds ∧
      t = s.complete .ok (some (BitVec.ofNat 16 (s.roundValue s.halfOperand idx)))) ∨
    (s.status.cfgValid = true ∧ s.activeRounds ≤ idx ∧ t = s.raise .indexRange) ∨
    (s.status.cfgValid = false ∧ t = s.raise .notConfigured) := by
  cases h
  obtain ⟨hc, hw⟩ | ⟨hc, hw⟩ := whenConfigured_cases s
    (if idx ≥ s.activeRounds then s.raise .indexRange
     else s.complete .ok (some (BitVec.ofNat 16 (s.roundValue s.halfOperand idx))))
  · rw [hw]
    split
    · exact .inr (.inl ⟨hc, ‹_›, rfl⟩)
    · exact .inl ⟨hc, by omega, rfl⟩
  · exact .inr (.inr ⟨hc, hw⟩)

theorem execRkey_next (idx : Nat) (s t : State) (h : execRkey idx s = .next t) :
    (s.status.cfgValid = true ∧ idx < s.activeRounds ∧
      t = s.complete .ok (some (BitVec.ofNat 16 (s.roundKey idx)))) ∨
    (s.status.cfgValid = true ∧ s.activeRounds ≤ idx ∧ t = s.raise .indexRange) ∨
    (s.status.cfgValid = false ∧ t = s.raise .notConfigured) := by
  cases h
  obtain ⟨hc, hw⟩ | ⟨hc, hw⟩ := whenConfigured_cases s
    (if idx ≥ s.activeRounds then s.raise .indexRange
     else s.complete .ok (some (BitVec.ofNat 16 (s.roundKey idx))))
  · rw [hw]
    split
    · exact .inr (.inl ⟨hc, ‹_›, rfl⟩)
    · exact .inl ⟨hc, by omega, rfl⟩
  · exact .inr (.inr ⟨hc, hw⟩)

theorem execDigit_next (s t : State) (h : execDigit s = .next t) :
    (s.status.cfgValid = true ∧ s.valueOperand < s.activePrime - 1 ∧
      t = s.complete .ok (some (BitVec.ofNat 16 (s.digitAt s.valueOperand)))) ∨
    (s.status.cfgValid = true ∧ s.activePrime - 1 ≤ s.valueOperand ∧ t = s.raise .indexRange) ∨
    (s.status.cfgValid = false ∧ t = s.raise .notConfigured) := by
  cases h
  obtain ⟨hc, hw⟩ | ⟨hc, hw⟩ := whenConfigured_cases s
    (if s.valueOperand ≥ s.activePrime - 1 then s.raise .indexRange
     else s.complete .ok (some (BitVec.ofNat 16 (s.digitAt s.valueOperand))))
  · rw [hw]
    split
    · exact .inr (.inl ⟨hc, ‹_›, rfl⟩)
    · exact .inl ⟨hc, by omega, rfl⟩
  · exact .inr (.inr ⟨hc, hw⟩)

/-- What any command can do: a completion whose only other writes are the datapath's, or a CONFIGURE (40_command_config.md
R402, R405, R406). -/
theorem exec_cases (i : Instr) (s t : State) (h : exec i s = .next t) :
    (∃ code out, t = s.complete code out) ∨ (∃ code out, t = (s.complete code out).releaseDatapath) ∨
    (i = .configure ∧ execConfigure s = .next t) := by
  cases i with
  | nop => exact .inl ⟨_, _, execNop_next s t h⟩
  | configure => exact .inr (.inr ⟨rfl, h⟩)
  | encrypt =>
    obtain ⟨-, h⟩ | ⟨-, h⟩ := execEncrypt_next s t h
    · exact .inr (.inl ⟨_, _, h⟩)
    · exact .inl ⟨_, _, h⟩
  | decrypt =>
    obtain ⟨-, h⟩ | ⟨-, h⟩ := execDecrypt_next s t h
    · exact .inr (.inl ⟨_, _, h⟩)
    · exact .inl ⟨_, _, h⟩
  | fround idx => obtain ⟨-, -, h⟩ | ⟨-, -, h⟩ | ⟨-, h⟩ := execFround_next idx s t h <;> exact .inl ⟨_, _, h⟩
  | mix => obtain ⟨-, h⟩ | ⟨-, h⟩ := execMix_next s t h <;> exact .inl ⟨_, _, h⟩
  | sbox => obtain ⟨-, h⟩ | ⟨-, h⟩ := execSbox_next s t h <;> exact .inl ⟨_, _, h⟩
  | digit => obtain ⟨-, -, h⟩ | ⟨-, -, h⟩ | ⟨-, h⟩ := execDigit_next s t h <;> exact .inl ⟨_, _, h⟩
  | rkey idx => obtain ⟨-, -, h⟩ | ⟨-, -, h⟩ | ⟨-, h⟩ := execRkey_next idx s t h <;> exact .inl ⟨_, _, h⟩

/-! ### The engine -/

theorem perform_ok (s : State) (i : Instr) (h : decode s.pend.w = .ok i) : s.perform = exec i s := by
  simp [State.perform, h]

theorem perform_bad (s : State) (e : BadWord) (h : decode s.pend.w = .error e) :
    s.perform = .next (s.raise .badCommand) := by
  simp [State.perform, h]

/-- The engine's turn is the perform step where it is enabled (40_command_config.md R402). -/
theorem engineTurn_pending (s : State) (hr : s.rst = false) (hb : s.status.busy = true) :
    s.engineTurn = s.perform := by
  simp [State.engineTurn, hr, hb]

/-- Every command answers a next state. -/
theorem exec_answers_next (i : Instr) (s : State) : ∃ t, exec i s = .next t := by
  cases i <;> exact ⟨_, rfl⟩

/-- The perform step always answers a next state. -/
theorem perform_answers_next (s : State) : ∃ t, s.perform = .next t := by
  cases h : decode s.pend.w with
  | ok i => rw [perform_ok s i h]; exact exec_answers_next i s
  | error e => exact ⟨_, perform_bad s e h⟩

/-- What the engine's turn can do (40_command_config.md R402). -/
theorem engineTurn_next (s t : State) (h : s.engineTurn = .next t) :
    (t = s ∧ (s.rst = true ∨ s.status.busy = false)) ∨
    (s.rst = false ∧ s.status.busy = true ∧ (∃ i, decode s.pend.w = .ok i ∧ exec i s = .next t)) ∨
    (s.rst = false ∧ s.status.busy = true ∧ (∃ e, decode s.pend.w = .error e) ∧ t = s.raise .badCommand) := by
  unfold State.engineTurn at h
  split at h
  · cases h; exact .inl ⟨rfl, .inl ‹_›⟩
  · next hr =>
    split at h
    · next hb =>
      cases hd : decode s.pend.w with
      | ok i => exact .inr (.inl ⟨by simpa using hr, hb, i, rfl, by rw [← perform_ok s i hd]; exact h⟩)
      | error e =>
        rw [perform_bad s e hd] at h
        cases h
        exact .inr (.inr ⟨by simpa using hr, hb, ⟨e, rfl⟩, rfl⟩)
    · next hb => cases h; exact .inl ⟨rfl, .inr (by simpa using hb)⟩

/-! ### The bus -/

/-- The window is the displacements 0 to 255 (00_scope.md R11). -/
theorem inWindow_iff (off : Int) : inWindow off = true ↔ 0 ≤ off ∧ off < 256 := by
  have h : ((Config.windowBytes : Nat) : Int) = 256 := rfl
  rw [inWindow, Bool.and_eq_true, decide_eq_true_iff, decide_eq_true_iff, h]

theorem inWindow_false_iff (off : Int) : inWindow off = false ↔ off < 0 ∨ 256 ≤ off := by
  rw [← Bool.not_eq_true, inWindow_iff]
  omega

/-- An access is accepted when it is aligned and of four bytes (20_memory.md R204). -/
theorem acceptable_iff (off : Int) (size : Nat) : acceptable off size = true ↔ off % 4 = 0 ∧ size = 4 := by
  simp [acceptable]

theorem acceptable_false_iff (off : Int) (size : Nat) : acceptable off size = false ↔ off % 4 ≠ 0 ∨ size ≠ 4 := by
  rw [← Bool.not_eq_true, acceptable_iff]
  omega

theorem regOffset_aligned (r : Reg) : regOffset r < 256 ∧ regOffset r % 4 = 0 := by cases r <;> decide

/-- An accepted read (20_memory.md R201, R206). -/
theorem busRead_accepted (s : State) (off : Nat) (hr : s.rst = false) (hw : off < 256) (ha : off % 4 = 0) :
    s.busRead (off : Int) 4 =
      .next (s.respond { isRead := true, answer := .accepted, data := s.readOffset off }) := by
  have h1 : inWindow (off : Int) = true := (inWindow_iff _).mpr (by omega)
  have h2 : acceptable (off : Int) 4 = true := (acceptable_iff _ _).mpr (by omega)
  simp [State.busRead, h1, h2, hr]

/-- An accepted write (20_memory.md R201). -/
theorem busWrite_accepted (s : State) (off : Nat) (v : Word) (hr : s.rst = false) (hw : off < 256)
    (ha : off % 4 = 0) :
    s.busWrite (off : Int) 4 v =
      .next ((s.writeOffset off v).respond { isRead := false, answer := .accepted, data := 0#32 }) := by
  have h1 : inWindow (off : Int) = true := (inWindow_iff _).mpr (by omega)
  have h2 : acceptable (off : Int) 4 = true := (acceptable_iff _ _).mpr (by omega)
  simp [State.busWrite, h1, h2, hr]

/-- A read that R204 does not accept, with rst asserted or not (60_exceptions.md R740). -/
theorem busRead_refused (s : State) (off : Int) (size : Nat) (hw : inWindow off = true) (ha : acceptable off size = false) :
    s.busRead off size = .next (s.respond { isRead := true, answer := .busError, data := 0#32 }) := by
  simp [State.busRead, hw, ha]

/-- A write that R204 does not accept, with rst asserted or not (60_exceptions.md R740). -/
theorem busWrite_refused (s : State) (off : Int) (size : Nat) (v : Word) (hw : inWindow off = true)
    (ha : acceptable off size = false) :
    s.busWrite off size v = .next (s.respond { isRead := false, answer := .busError, data := 0#32 }) := by
  simp [State.busWrite, hw, ha]

/-- A read inside the window always answers a next state. -/
theorem busRead_answers_next (s : State) (off : Int) (size : Nat) (hw : inWindow off = true) :
    ∃ r, s.busRead off size = .next (s.respond r) := by
  unfold State.busRead
  rw [hw]
  simp only [Bool.true_eq_false, if_false]
  split
  · exact ⟨_, rfl⟩
  · split <;> exact ⟨_, rfl⟩

/-- A write inside the window always answers a next state. -/
theorem busWrite_answers_next (s : State) (off : Int) (size : Nat) (v : Word) (hw : inWindow off = true) :
    ∃ t, s.busWrite off size v = .next t := by
  unfold State.busWrite
  rw [hw]
  simp only [Bool.true_eq_false, if_false]
  split
  · exact ⟨_, rfl⟩
  · split <;> exact ⟨_, rfl⟩

/-- What a read can do: record one response (20_memory.md R206). -/
theorem busRead_next (s t : State) (off : Int) (size : Nat) (h : s.busRead off size = .next t) :
    ∃ r, t = s.respond r := by
  unfold State.busRead at h
  split at h
  · cases h
  · split at h
    · cases h; exact ⟨_, rfl⟩
    · split at h <;> (cases h; exact ⟨_, rfl⟩)

/-- What a write can do: one register write where it is accepted, and one response (20_memory.md R201, R204). -/
theorem busWrite_next (s t : State) (off : Int) (size : Nat) (v : Word) (h : s.busWrite off size v = .next t) :
    (∃ r, t = s.respond r) ∨
    (s.rst = false ∧ ∃ reg r, off.toNat = regOffset reg ∧ t = (s.writeReg reg v).respond r) := by
  unfold State.busWrite at h
  split at h
  · cases h
  · split at h
    · cases h; exact .inl ⟨_, rfl⟩
    · split at h
      · cases h; exact .inl ⟨_, rfl⟩
      · next hr =>
        cases h
        obtain ⟨reg, ho, hw⟩ | ⟨-, hw⟩ := writeOffset_cases s off.toNat v
        · exact .inr ⟨by simpa using hr, reg, _, ho, by rw [hw]⟩
        · exact .inl ⟨_, by rw [hw]⟩

/-! ### The step -/

/-- What a step can do: the engine's turn on an empty script, or the head of the script (20_memory.md R210). -/
theorem step_cases (s t : State) (h : step s = .next t) :
    (s.script = [] ∧ s.engineTurn = .next t) ∨
    (∃ u ts, s.script = u :: ts ∧ State.takeTurn { s with script := ts } u = .next t) := by
  unfold step State.runTurn at h
  split at h
  · exact .inl ⟨‹_›, h⟩
  · exact .inr ⟨_, _, ‹_›, h⟩

theorem step_empty (s : State) (h : s.script = []) : step s = s.engineTurn := by
  simp [step, State.runTurn, h]

theorem step_cons (s : State) (u : Turn) (ts : List Turn) (h : s.script = u :: ts) :
    step s = State.takeTurn { s with script := ts } u := by
  simp [step, State.runTurn, h]

/-- A run of one step more takes that step first. -/
theorem run_succ (n : Nat) (s t : State) (h : step s = .next t) :
    Sys2Proof.core.run (n + 1) s = Sys2Proof.core.run n t := by
  have h' : Sys2Proof.core.step s = .next t := h
  simp only [Host.Core.run, h']

end Sys2Proof.Machine
end

