-- ==== Sys2Proof/Laws/Safety.lean ====
section
/-! SUPPORT. The small lemmas of Safety.lean: the fields and views of a state with other unspecified contents, the reflexive
agreement, and when a run is over. -/

namespace Sys2Proof.Machine

/-! ### withUnspecified -/

@[simp] theorem withUnspecified_status (s : State) (box : List BoxEntry) (keys : List Block) (d : Datapath) (n : Nat) :
    (s.withUnspecified box keys d n).status = s.status := rfl

@[simp] theorem withUnspecified_irqEn (s : State) (box : List BoxEntry) (keys : List Block) (d : Datapath) (n : Nat) :
    (s.withUnspecified box keys d n).irqEn = s.irqEn := rfl

@[simp] theorem withUnspecified_prime (s : State) (box : List BoxEntry) (keys : List Block) (d : Datapath) (n : Nat) :
    (s.withUnspecified box keys d n).prime = s.prime := rfl

@[simp] theorem withUnspecified_rounds (s : State) (box : List BoxEntry) (keys : List Block) (d : Datapath) (n : Nat) :
    (s.withUnspecified box keys d n).rounds = s.rounds := rfl

@[simp] theorem withUnspecified_boxsize (s : State) (box : List BoxEntry) (keys : List Block) (d : Datapath) (n : Nat) :
    (s.withUnspecified box keys d n).boxsize = s.boxsize := rfl

@[simp] theorem withUnspecified_seedLo (s : State) (box : List BoxEntry) (keys : List Block) (d : Datapath) (n : Nat) :
    (s.withUnspecified box keys d n).seedLo = s.seedLo := rfl

@[simp] theorem withUnspecified_seedHi (s : State) (box : List BoxEntry) (keys : List Block) (d : Datapath) (n : Nat) :
    (s.withUnspecified box keys d n).seedHi = s.seedHi := rfl

@[simp] theorem withUnspecified_din (s : State) (box : List BoxEntry) (keys : List Block) (d : Datapath) (n : Nat) :
    (s.withUnspecified box keys d n).din = s.din := rfl

@[simp] theorem withUnspecified_dout (s : State) (box : List BoxEntry) (keys : List Block) (d : Datapath) (n : Nat) :
    (s.withUnspecified box keys d n).dout = s.dout := rfl

@[simp] theorem withUnspecified_aprime (s : State) (box : List BoxEntry) (keys : List Block) (d : Datapath) (n : Nat) :
    (s.withUnspecified box keys d n).aprime = s.aprime := rfl

@[simp] theorem withUnspecified_arounds (s : State) (box : List BoxEntry) (keys : List Block) (d : Datapath) (n : Nat) :
    (s.withUnspecified box keys d n).arounds = s.arounds := rfl

@[simp] theorem withUnspecified_aboxsize (s : State) (box : List BoxEntry) (keys : List Block) (d : Datapath) (n : Nat) :
    (s.withUnspecified box keys d n).aboxsize = s.aboxsize := rfl

@[simp] theorem withUnspecified_boxram (s : State) (box : List BoxEntry) (keys : List Block) (d : Datapath) (n : Nat) :
    (s.withUnspecified box keys d n).boxram = box := rfl

@[simp] theorem withUnspecified_keyram (s : State) (box : List BoxEntry) (keys : List Block) (d : Datapath) (n : Nat) :
    (s.withUnspecified box keys d n).keyram = keys := rfl

@[simp] theorem withUnspecified_pend (s : State) (box : List BoxEntry) (keys : List Block) (d : Datapath) (n : Nat) :
    (s.withUnspecified box keys d n).pend = s.pend := rfl

@[simp] theorem withUnspecified_datapath (s : State) (box : List BoxEntry) (keys : List Block) (d : Datapath) (n : Nat) :
    (s.withUnspecified box keys d n).datapath = d := rfl

@[simp] theorem withUnspecified_rst (s : State) (box : List BoxEntry) (keys : List Block) (d : Datapath) (n : Nat) :
    (s.withUnspecified box keys d n).rst = s.rst := rfl

@[simp] theorem withUnspecified_script (s : State) (box : List BoxEntry) (keys : List Block) (d : Datapath) (n : Nat) :
    (s.withUnspecified box keys d n).script = s.script := rfl

@[simp] theorem withUnspecified_responses (s : State) (box : List BoxEntry) (keys : List Block) (d : Datapath) (n : Nat) :
    (s.withUnspecified box keys d n).responses = s.responses := rfl

@[simp] theorem withUnspecified_freeCtr (s : State) (box : List BoxEntry) (keys : List Block) (d : Datapath) (n : Nat) :
    (s.withUnspecified box keys d n).freeCtr = n := rfl

@[simp] theorem withUnspecified_readReg (s : State) (box : List BoxEntry) (keys : List Block) (d : Datapath) (n : Nat) (r : Reg) :
    (s.withUnspecified box keys d n).readReg r = s.readReg r := by cases r <;> rfl

@[simp] theorem withUnspecified_irq (s : State) (box : List BoxEntry) (keys : List Block) (d : Datapath) (n : Nat) :
    (s.withUnspecified box keys d n).irq = s.irq := rfl

@[simp] theorem withUnspecified_observation (s : State) (box : List BoxEntry) (keys : List Block) (d : Datapath) (n : Nat) :
    (s.withUnspecified box keys d n).observation = s.observation := rfl

@[simp] theorem withUnspecified_runOver (s : State) (box : List BoxEntry) (keys : List Block) (d : Datapath) (n : Nat) :
    (s.withUnspecified box keys d n).runOver = s.runOver := rfl

/-- A state agrees with its own arrays. -/
theorem specifiedAgree_refl (s : State) : s.specifiedAgree s.boxram s.keyram := fun _ => ⟨fun _ _ => rfl, fun _ _ => rfl⟩

/-- Without an active configuration nothing in the arrays is specified (10_state.md R120, R121). -/
theorem specifiedAgree_inactive (s : State) (box : List BoxEntry) (keys : List Block) (h : s.status.cfgValid = false) :
    s.specifiedAgree box keys := fun h' => by simp [h] at h'

/-! ### Moves of the host -/

/-- The turns that are no move of the host program (log 28). -/
theorem isHostMove_false_iff (u : Turn) : u.isHostMove = false ↔ u = .engine ∨ u = .releaseReset := by
  cases u <;> simp [Turn.isHostMove]

end Sys2Proof.Machine
end

