-- ==== Sys2Proof/Tests/Slice0.lean ====
section
/-! SUPPORT. The model's own tests: the well-formedness checks, the decoder on words written out from the encoding of
30_encoding.md, one step of each command against the vectors of 95_test_vectors.md, and for each statement with hypotheses a
witness that meets them. -/

namespace Sys2Proof.Tests

open Sys2Proof Sys2Proof.Machine

-- One proof at a time: each kernel evaluation would otherwise take a thread of its own, and a stack with it.
set_option Elab.async false

/-! ### Helpers -/

/-- KS_KDF_T, the stand-in of 95_test_vectors.md section 0.1. -/
def kdfT (key : Int) (_p i : Nat) : Nat := (3 * (key % 65536) + 5 * (i : Int) + 1).toNat

/-- A state with an active configuration, as CONFIGURE builds it (index 0 upward) from a given KS_KDF. -/
def configured (kdf : Int → Nat → Nat → Nat) (p r b : Nat) (seed : Int) : State :=
  { State.reset with
    aprime := BitVec.ofNat 16 p
    arounds := BitVec.ofNat 8 r
    aboxsize := BitVec.ofNat 16 b
    status := { busy := false, done := true, cfgValid := true, ovr := false, res := 0#4 }
    boxram := boxContents 0 b (fun j => BitVec.ofNat 4 (digitOf 0 p j))
    keyram := keyContents 0 r (fun i => BitVec.ofNat 16 ((keySchedule kdf seed p r).getD i 0)) }

/-- Configurations A, C, D and H of 95_test_vectors.md section 0.2. -/
def stateA : State := configured kdfT 7 2 6 17
def stateC : State := configured kdfT 61 10 60 17
def stateD : State := configured kdfT 1021 4 1020 17
def stateH : State := configured kdfT 65521 2 4096 123456789

/-- A state with DIN and the command word `w` written, the engine's turn next. -/
def pending (s : State) (din : Block) (w : Word) : State := State.placeCommand { s with din := din } w

/-- A state with latched staged values and CONFIGURE pending. -/
def staged (p r b : Nat) (seed : BitVec 64) : State :=
  State.placeCommand { State.reset with
    prime := BitVec.ofNat 16 p
    rounds := BitVec.ofNat 8 r
    boxsize := BitVec.ofNat 16 b
    seedLo := seed.extractLsb' 0 32
    seedHi := seed.extractLsb' 32 32 } 0x00000001#32

/-- A state whose next turn is `u`. -/
def facing (s : State) (u : Turn) : State := { s with script := [u] }

/-- DOUT and STATUS of a next state. -/
def outcome (o : Host.Outcome State Fault Refusal) : Option (Block × Word) :=
  match o with
  | .next t => some (t.dout, t.status.word)
  | .fault _ => none
  | .refused _ => none

/-! ### Well-formedness -/

theorem test_fround_index_of_nine_bits_is_ill_formed : (Instr.fround 256).wellFormed = false := by decide
theorem test_rkey_index_of_nine_bits_is_ill_formed : (Instr.rkey 256).wellFormed = false := by decide
theorem test_widest_indexes_are_well_formed :
    (Instr.fround 255).wellFormed = true ∧ (Instr.rkey 255).wellFormed = true := by decide

/-! ### Decoding: RSV1, IDX, RSV0 and OP written out bit by bit (30_encoding.md R300, R302, R308) -/

theorem test_decode_nop : decode 0b0000000000000000_00000000_0000_0000#32 = .ok .nop := by decide
theorem test_decode_configure : decode 0b0000000000000000_00000000_0000_0001#32 = .ok .configure := by decide
theorem test_decode_encrypt : decode 0b0000000000000000_00000000_0000_0010#32 = .ok .encrypt := by decide
theorem test_decode_decrypt : decode 0b0000000000000000_00000000_0000_0011#32 = .ok .decrypt := by decide
theorem test_decode_fround : decode 0b0000000000000000_00000001_0000_0100#32 = .ok (.fround 1) := by decide
theorem test_decode_mix : decode 0b0000000000000000_00000000_0000_0101#32 = .ok .mix := by decide
theorem test_decode_sbox : decode 0b0000000000000000_00000000_0000_0110#32 = .ok .sbox := by decide
theorem test_decode_digit : decode 0b0000000000000000_00000000_0000_0111#32 = .ok .digit := by decide
theorem test_decode_rkey : decode 0b0000000000000000_11111111_0000_1000#32 = .ok (.rkey 255) := by decide
theorem test_decode_ignored_index : decode 0b0000000000000000_11111111_0000_0010#32 = .ok .encrypt := by decide
theorem test_decode_reserved_opcode :
    decode 0b0000000000000000_00000000_0000_1001#32 = .error .reservedOpcode ∧
    decode 0b0000000000000000_00000000_0000_1111#32 = .error .reservedOpcode := by decide
theorem test_decode_reserved_low : decode 0b0000000000000000_00000000_1000_0010#32 = .error .reservedLow := by decide
theorem test_decode_reserved_high : decode 0b1000000000000000_00000000_0000_0000#32 = .error .reservedHigh := by decide
theorem test_encode_rkey : encode (.rkey 9) = 0x00000908#32 := by decide
theorem test_decode_table_word :
    decodeTableWord 16 0x0108 = some (.rkey 1) ∧ decodeTableWord 32 0x00000005 = some .mix ∧
    decodeTableWord 32 0x00000009 = none := by decide

/-! ### One step of each command (95_test_vectors.md; the vector's name stands at each) -/

/-- STATUS 0x0000_0002: NOP from reset (section 0.3). -/
theorem test_nop_from_reset : outcome (step (State.reset.withFetchWord 32 0)) = some (0#16, 0x00000002#32) := by
  decide +kernel

/-- BAD_COMMAND when configured: STATUS 0x0000_0066 (section 0.3). -/
theorem test_bad_word : outcome (step (pending stateA 0#16 0x00000009#32)) = some (0#16, 0x00000066#32) := by
  decide +kernel

/-- V24: (7, 2, 7, 17) is BOX_TOO_BIG. -/
theorem test_configure_box_too_big : outcome (step (staged 7 2 7 17#64)) = some (0#16, 0x00000032#32) := by
  decide +kernel

/-- V24 and V5: (7, 2, 6, 17) is OK, with box 1, 4, 2, 8, 5, 7. -/
theorem test_configure_box : (match step (staged 7 2 6 17#64) with
    | .next t => some (t.status.word, t.aprime, t.arounds, t.aboxsize, t.boxram.take 6)
    | _ => none) = some (0x00000006#32, 7#16, 2#8, 6#16, [1#4, 4#4, 2#4, 8#4, 5#4, 7#4]) := by decide +kernel

/-- T6: the first block of the message. -/
theorem test_encrypt : outcome (step (pending stateC 0x4865#16 0x00000002#32)) = some (0x4B7B#16, 0x00000006#32) := by
  decide +kernel

/-- V19: round-function values above 255 lose their bits 9:8. -/
theorem test_encrypt_wide_values :
    outcome (step (pending stateD 0x4142#16 0x00000002#32)) = some (0xF142#16, 0x00000006#32) := by decide +kernel

/-- V18. -/
theorem test_decrypt : outcome (step (pending stateA 0x1731#16 0x00000003#32)) = some (0x1234#16, 0x00000006#32) := by
  decide +kernel

/-- V21. -/
theorem test_decrypt_unconfigured :
    outcome (step (pending State.reset 0x1731#16 0x00000003#32)) = some (0#16, 0x00000052#32) := by decide +kernel

/-- V16: the value is not masked to 8 bits, and DIN[15:8] is ignored (V15). -/
theorem test_fround_full_value :
    outcome (step (pending stateD 0xAB42#16 0x00000004#32)) = some (787#16, 0x00000006#32) := by decide +kernel

/-- V15: the index r. -/
theorem test_fround_index_range :
    outcome (step (pending stateA 0#16 0x00000204#32)) = some (0#16, 0x00000076#32) := by decide +kernel

/-- V13: the exactness check of configuration H. -/
theorem test_mix_is_exact : outcome (step (pending stateH 0xFFFF#16 0x00000005#32)) = some (97#16, 0x00000006#32) := by
  decide +kernel

/-- V14. -/
theorem test_mix : outcome (step (pending stateC 0#16 0x00000005#32)) = some (31#16, 0x00000006#32) := by decide +kernel

/-- V6: 65535 mod 60 is 15. -/
theorem test_sbox : outcome (step (pending stateC 0xFFFF#16 0x00000006#32)) = some (8#16, 0x00000006#32) := by
  decide +kernel

/-- V4: the last legal index, and the first illegal one. -/
theorem test_digit_last_index : outcome (step (pending stateC 59#16 0x00000007#32)) = some (9#16, 0x00000006#32) := by
  decide +kernel
theorem test_digit_index_range : outcome (step (pending stateC 60#16 0x00000007#32)) = some (0#16, 0x00000076#32) := by
  decide +kernel

/-- V10: the last legal index, and the first illegal one. -/
theorem test_rkey_last_index : outcome (step (pending stateC 0#16 0x00000908#32)) = some (53#16, 0x00000006#32) := by
  decide +kernel
theorem test_rkey_index_range : outcome (step (pending stateC 0#16 0x00000A08#32)) = some (0#16, 0x00000076#32) := by
  decide +kernel

/-! ### The sequence, the key schedule, the codec and the window -/

/-- V1: both DSEQ_PHASEs for p = 7. -/
theorem test_digit_sequence :
    (List.range 6).map (digitOf 0 7) = [1, 4, 2, 8, 5, 7] ∧ (List.range 6).map (digitOf 1 7) = [4, 2, 8, 5, 7, 1] := by
  decide

/-- Section 0.2: the keys of C, and of G with seed −1. -/
theorem test_key_schedule :
    keySchedule kdfT 17 61 10 = [52, 40, 9, 43, 28, 49, 56, 21, 43, 53] ∧ keySchedule kdfT (-1) 7 2 = [4, 4] := by
  decide +kernel

/-- T8: the loss of a character of code 0. -/
theorem test_codec_loss : textDecrypt stateA.decBlock (textEncrypt stateA.encBlock [0x61#8, 0#8, 0x62#8]) = [0x61#8, 0x62#8] := by
  decide +kernel

/-- 10_state.md R107: BOXSIZE reads 0x100 after reset. -/
theorem test_read_boxsize : (match step (facing State.reset (rd .boxsize)) with
    | .next t => t.responses
    | _ => []) = [{ isRead := true, answer := .accepted, data := 0x00000100#32 }] := by decide +kernel

/-- 20_memory.md R204: a byte read is a bus error. -/
theorem test_byte_read_is_a_bus_error : (match step (facing State.reset (.read 0x14 1)) with
    | .next t => t.responses
    | _ => []) = [{ isRead := true, answer := .busError, data := 0#32 }] := by decide +kernel

/-- 60_exceptions.md R740 while rst is asserted: a byte write is a bus error then too. -/
theorem test_byte_write_in_reset_is_a_bus_error : (match step (facing State.reset.assertReset (.write 0 1 1#32)) with
    | .next t => t.responses
    | _ => []) = [{ isRead := false, answer := .busError, data := 0#32 }] := by decide +kernel

/-! ### Witnesses: a state and operands that meet the hypotheses of a statement, with every clause at a boundary -/

/-- Configuration of the smallest prime under the machine's own KS_KDF: p = 5, r = 1, b = 4. -/
def stateSmall : State := configured Config.ksKdf 5 1 4 0

/-- The smallest configuration meets the invariant. -/
theorem stateSmall_inv : stateSmall.Inv where
  notBusyAndDone := by decide
  resultLegal := by decide
  boxDepth := boxContents_length _ _ _
  keyDepth := keyContents_length _ _ _
  primeLegal := fun _ => by
    rw [show stateSmall.activePrime = 5 by decide]; norm_num
  boxLegal := fun _ => by decide
  roundsLegal := fun _ => by decide
  boxBuilt := fun _ => by
    intro j hj
    rw [show stateSmall.activeBox = 4 by decide] at hj
    rw [show stateSmall.activePrime = 5 by decide]
    rw [show stateSmall.boxram = boxContents 0 4 (fun j => BitVec.ofNat 4 (digitOf 0 5 j)) from rfl,
      readArray_boxContents _ _ _ _ hj (by unfold Config.boxMax; omega)]
    interval_cases j <;> decide
  keysBuilt := fun _ => by
    refine ⟨0#64, fun i hi => ?_⟩
    rw [show stateSmall.activeRounds = 1 by decide] at hi ⊢
    rw [show stateSmall.activePrime = 5 by decide, show (0#64).toInt = 0 by decide]
    rw [show stateSmall.keyram =
        keyContents 0 1 (fun i => BitVec.ofNat 16 ((keySchedule Config.ksKdf 0 5 1).getD i 0)) from rfl,
      readArray_keyContents _ _ _ _ hi (by unfold Config.roundsMax; omega)]
    have h0 : i = 0 := by omega
    subst h0
    have h : Config.ksKdf 0 5 0 % 5 < 5 := Nat.mod_lt _ (by norm_num)
    simp only [keySchedule, keysFrom, List.getD_cons_zero, BitVec.toNat_ofNat]
    omega
  activeCleared := fun h => absurd h (by decide)
  heldInReset := fun h => absurd h (by decide)

theorem witness_DecodeOfEncodeIsTheCommand : (Instr.rkey 255).wellFormed = true ∧ Instr.nop.wellFormed = true := by decide

theorem witness_WordsDecodeByTheOpcodeMap : decode 0x00000000#32 = .ok .nop ∧ decode 0x0000FF08#32 = .ok (.rkey 255) := by
  decide

theorem witness_IgnoredIndexGivesTheSameBehaviour :
    (0 ∈ [0, 1, 2, 3, 5, 6, 7] ∧ 0x0000FF00#32 &&& 0xFFFF00FF#32 = BitVec.ofNat 32 0) ∧
    (7 ∈ [0, 1, 2, 3, 5, 6, 7] ∧ 0x0000FF07#32 &&& 0xFFFF00FF#32 = BitVec.ofNat 32 7) := by decide

theorem witness_ByteLanesCarryTheWord : 0 < 4 ∧ 3 < 4 := by decide

theorem witness_StepRunsTheDecodedCommand :
    (let s := pending stateA 0#16 0x00000108#32
     s.rst = false ∧ s.status.busy = true ∧ decode s.pend.w = .ok (.rkey 1) ∧ s.script = .engine :: []) ∧
    (let s := State.issue stateA 0x00000108#32
     s.rst = false ∧ s.status.busy = true ∧ decode s.pend.w = .ok (.rkey 1) ∧ s.script = []) := by decide +kernel

/-- The three ways in which a word is illegal, at the boundary of each field. -/
theorem witness_IllegalWordCompletesWithBadCommand :
    (∀ s ∈ [pending stateA 0#16 0x00000009#32, pending stateA 0#16 0x0000000F#32],
      s.rst = false ∧ s.status.busy = true ∧ s.script = .engine :: [] ∧ 8 < (s.pend.w.extractLsb' 0 4).toNat) ∧
    (∀ s ∈ [pending stateA 0#16 0x00000010#32, pending stateA 0#16 0x000000F2#32],
      s.rst = false ∧ s.status.busy = true ∧ s.script = .engine :: [] ∧ s.pend.w.extractLsb' 4 4 ≠ 0#4) ∧
    (∀ s ∈ [pending stateA 0#16 0x00010000#32, pending stateA 0#16 0xFFFF0002#32],
      s.rst = false ∧ s.status.busy = true ∧ s.script = .engine :: [] ∧ s.pend.w.extractLsb' 16 16 ≠ 0#16) := by
  decide +kernel

theorem witness_EngineIdleWithoutACommand :
    (stateA.status.busy = false ∧ stateA.script = []) ∧
    ((facing stateA .engine).status.busy = false ∧ (facing stateA .engine).script = .engine :: []) := by decide +kernel

/-- The hypotheses hold for every pending word and latched value; one state for each clause of the statement. -/
theorem witness_ResultCodeIsTheFirstThatApplies :
    ∀ s ∈ [pending stateA 0#16 0x00000009#32, pending State.reset 0#16 0x00000002#32, pending stateA 6#16 0x00000007#32,
        pending stateA 0#16 0x00000204#32, pending stateA 0#16 0x00000208#32, pending stateA 5#16 0x00000007#32,
        staged 4 1 1 0#64, staged 9 1 1 0#64, staged 5 1 0 0#64, staged 5 1 5 0#64, staged 65521 1 4097 0#64,
        staged 5 0 4 0#64, staged 5 1 4 0#64],
      s.rst = false ∧ s.status.busy = true ∧ s.script = .engine :: [] := by decide +kernel

theorem witness_UnconfiguredCommandsCompleteWithNotConfigured :
    (∀ i ∈ [Instr.encrypt, .decrypt, .fround 0, .mix, .sbox, .digit, .rkey 0],
      i ∈ [Instr.encrypt, .decrypt, .fround 0, .mix, .sbox, .digit, .rkey 0]) ∧
    State.reset.status.cfgValid = false := by decide

/-- The smallest and the largest legal values (V24). -/
theorem witness_ConfigureBuildsTheConfiguration :
    (let s := staged 5 1 4 0#64
     let p := s.pend.sp.toNat
     Nat.Prime p ∧ 5 ≤ p ∧ 1 ≤ s.pend.sb.toNat ∧ s.pend.sb.toNat ≤ p - 1 ∧ s.pend.sb.toNat ≤ 4096 ∧ 1 ≤ s.pend.sr.toNat) ∧
    (let s := staged 65521 255 4096 0xFFFFFFFFFFFFFFFF#64
     let p := s.pend.sp.toNat
     Nat.Prime p ∧ 5 ≤ p ∧ 1 ≤ s.pend.sb.toNat ∧ s.pend.sb.toNat ≤ p - 1 ∧ s.pend.sb.toNat ≤ 4096 ∧ 1 ≤ s.pend.sr.toNat) := by
  simp only [show (staged 5 1 4 0#64).pend.sp.toNat = 5 by decide, show (staged 5 1 4 0#64).pend.sb.toNat = 4 by decide,
    show (staged 5 1 4 0#64).pend.sr.toNat = 1 by decide,
    show (staged 65521 255 4096 0xFFFFFFFFFFFFFFFF#64).pend.sp.toNat = 65521 by decide,
    show (staged 65521 255 4096 0xFFFFFFFFFFFFFFFF#64).pend.sb.toNat = 4096 by decide,
    show (staged 65521 255 4096 0xFFFFFFFFFFFFFFFF#64).pend.sr.toNat = 255 by decide]
  norm_num

/-- Each failing check at its boundary: p = 4, p = 9, b = 0, b = p, b = BOX_MAX + 1, r = 0. -/
theorem witness_ConfigureFailureDiscardsTheConfiguration :
    (staged 4 1 1 0#64).pend.sp.toNat < 5 ∧
    (5 ≤ (staged 9 1 1 0#64).pend.sp.toNat ∧ ¬ Nat.Prime (staged 9 1 1 0#64).pend.sp.toNat) ∧
    (Nat.Prime (staged 5 1 0 0#64).pend.sp.toNat ∧ (staged 5 1 0 0#64).pend.sb.toNat = 0) ∧
    (Nat.Prime (staged 5 1 5 0#64).pend.sp.toNat ∧ (staged 5 1 5 0#64).pend.sb.toNat = 5) ∧
    (Nat.Prime (staged 65521 1 4097 0#64).pend.sp.toNat ∧ (staged 65521 1 4097 0#64).pend.sb.toNat = 4097) ∧
    (Nat.Prime (staged 5 0 4 0#64).pend.sp.toNat ∧ (staged 5 0 4 0#64).pend.sb.toNat = 4 ∧
      (staged 5 0 4 0#64).pend.sr.toNat = 0) := by
  simp only [show (staged 4 1 1 0#64).pend.sp.toNat = 4 by decide, show (staged 9 1 1 0#64).pend.sp.toNat = 9 by decide,
    show (staged 5 1 0 0#64).pend.sp.toNat = 5 by decide, show (staged 5 1 0 0#64).pend.sb.toNat = 0 by decide,
    show (staged 5 1 5 0#64).pend.sp.toNat = 5 by decide, show (staged 5 1 5 0#64).pend.sb.toNat = 5 by decide,
    show (staged 65521 1 4097 0#64).pend.sp.toNat = 65521 by decide,
    show (staged 65521 1 4097 0#64).pend.sb.toNat = 4097 by decide,
    show (staged 5 0 4 0#64).pend.sp.toNat = 5 by decide, show (staged 5 0 4 0#64).pend.sb.toNat = 4 by decide,
    show (staged 5 0 4 0#64).pend.sr.toNat = 0 by decide]
  norm_num

/-- Two states of one latched CONFIGURE that differ in all else that matters. -/
theorem witness_ConfigureIsDeterministic :
    let s := staged 5 1 4 0#64
    let s' := { stateA with pend := s.pend, freeCtr := 7 }
    s.pend.sp = s'.pend.sp ∧ s.pend.sr = s'.pend.sr ∧ s.pend.sb = s'.pend.sb ∧ s.pend.sseed = s'.pend.sseed ∧
    s.aprime ≠ s'.aprime := by decide +kernel

theorem witness_DigitClosedForm : 2 ≤ 2 ∧ 2 ≤ 65521 := by decide
theorem witness_DigitsAreDecimal : 2 ≤ 2 ∧ 2 ≤ 65521 := by decide
theorem witness_DigitSequenceIsPeriodic : Nat.Prime 7 ∧ ¬ 7 ∣ 10 := by norm_num
theorem witness_SboxCompletes : stateA.status.cfgValid = true := by decide +kernel

/-- The last legal index, p − 2. -/
theorem witness_DigitCompletes :
    let s := pending stateA 5#16 0x00000007#32
    s.status.cfgValid = true ∧ s.pend.din.toNat < s.aprime.toNat - 1 := by decide +kernel

theorem witness_RoundKeysLieBelowThePrime : 0 < 1 ∧ 0 < 65521 := by decide

/-- Two seeds that give one first key under the stand-in (T3). -/
theorem witness_RoundKeyDependencies :
    1 ≤ 1 ∧ 8 + 1 < 10 ∧ kdfT 17 61 0 % 61 = kdfT 65553 61 0 % 61 := by decide +kernel

theorem witness_RkeyCompletes : stateA.status.cfgValid = true ∧ 1 < stateA.arounds.toNat := by decide +kernel

/-- The index r and the index p − 1. -/
theorem witness_IndexOutOfRangeChangesNothingElse :
    let s := pending stateA 6#16 0x00000007#32
    s.status.cfgValid = true ∧ s.arounds.toNat ≤ 2 ∧ s.aprime.toNat - 1 ≤ s.pend.din.toNat := by decide +kernel

theorem witness_MixCompletes : stateA.status.cfgValid = true := by decide +kernel
theorem witness_FroundCompletes : stateA.status.cfgValid = true ∧ 1 < stateA.arounds.toNat := by decide +kernel
theorem witness_MixTakesTenSmallValues : stateSmall.Inv ∧ stateSmall.status.cfgValid = true := ⟨stateSmall_inv, rfl⟩

/-- Two halves equal modulo p = 7. -/
theorem witness_MixReducesItsOperand :
    (0#8 : Half).toNat % stateA.activePrime = (7#8 : Half).toNat % stateA.activePrime := by decide +kernel

theorem witness_EncryptCompletes : stateA.status.cfgValid = true := by decide +kernel
theorem witness_DecryptCompletes : stateA.status.cfgValid = true := by decide +kernel
theorem witness_EncryptThenDecryptRestoresTheBlock : stateA.status.cfgValid = true := by decide +kernel

/-- The arrays of A with the unspecified entries and the working registers replaced. -/
def stateA' : State :=
  { stateA with
    boxram := boxContents 9 6 (fun j => BitVec.ofNat 4 (digitOf 0 7 j))
    keyram := keyContents 9 2 (fun i => BitVec.ofNat 16 ((keySchedule kdfT 17 7 2).getD i 0))
    datapath := { left := 1#8, right := 2#8, rc := 3#8, fv := 4#10 }
    freeCtr := 5 }

theorem witness_CiphersReadTheActiveConfigurationAlone :
    stateA.aprime = stateA'.aprime ∧ stateA.arounds = stateA'.arounds ∧ stateA.aboxsize = stateA'.aboxsize ∧
    0 < stateA.activeBox ∧ (∀ j, j < stateA.activeBox → stateA.boxram.getD j 0#4 = stateA'.boxram.getD j 0#4) ∧
    (∀ i, i < stateA.activeRounds → stateA.keyram.getD i 0#16 = stateA'.keyram.getD i 0#16) := by decide +kernel

/-- The unspecified contents replaced under an active configuration, and everything replaced without one. -/
theorem witness_UnspecifiedContentsAreNeverObserved :
    (0 < stateA.activeBox ∧ stateA.specifiedAgree stateA'.boxram stateA'.keyram) ∧
    (State.reset.status.cfgValid = false ∧ State.reset.specifiedAgree [1#4] [2#16]) :=
  ⟨⟨by decide +kernel, fun _ => by decide +kernel⟩, rfl, specifiedAgree_inactive _ _ _ rfl⟩

theorem witness_IssueLatchesEveryOperand :
    let s := facing stateA (.write 0 4 0x00000002#32)
    s.rst = false ∧ s.status.busy = false ∧ s.script = .write 0 4 0x00000002#32 :: [] := by decide +kernel

/-- A state with a command pending and OVR set, whose next turn is `u`. -/
def overrun (u : Turn) : State := facing ((stateA.issue 0x00000002#32).drop) u

/-- A second word while busy; and OVR cleared by reset and by an acknowledgement. -/
theorem witness_CommandWrittenWhileBusyIsDropped :
    (let s := overrun (.write 0 4 0x00000003#32)
     s.rst = false ∧ s.status.busy = true ∧ s.script = .write 0 4 0x00000003#32 :: []) ∧
    (∃ t, step (overrun .assertReset) = .next t ∧ (overrun .assertReset).status.ovr = true ∧ t.status.ovr = false) ∧
    (∃ t, step (overrun (.write 4 4 0x00000008#32)) = .next t ∧ (overrun (.write 4 4 0x00000008#32)).status.ovr = true ∧
      t.status.ovr = false) :=
  ⟨by decide +kernel, ⟨_, rfl, rfl, rfl⟩, ⟨_, rfl, rfl, rfl⟩⟩

theorem witness_StatusWriteClearsDoneAndOvrAlone :
    let s := facing stateA (.write 4 4 0x0000000A#32)
    s.rst = false ∧ s.script = .write 4 4 0x0000000A#32 :: [] := by decide +kernel

/-- The first and the last read-write register of the window. -/
theorem witness_RegisterWriteChangesThatRegisterAlone :
    ∀ orm ∈ [((0x08 : Nat), Reg.ctrl, (0x00000001#32 : Word)), (0x20, .din, 0x0000FFFF#32)],
      let s := facing stateA (.write (orm.1 : Int) 4 0xFFFFFFFF#32)
      s.rst = false ∧
      orm ∈ [(0x08, Reg.ctrl, 0x00000001#32), (0x0C, .prime, 0x0000FFFF#32), (0x10, .rounds, 0x000000FF#32),
        (0x14, .boxsize, 0x0000FFFF#32), (0x18, .seedLo, 0xFFFFFFFF#32), (0x1C, .seedHi, 0xFFFFFFFF#32),
        (0x20, .din, 0x0000FFFF#32)] ∧
      s.script = .write (orm.1 : Int) 4 0xFFFFFFFF#32 :: [] := by decide +kernel

/-- DOUT, the last register, the first reserved offset and the last one. -/
theorem witness_ReadOnlyAndReservedOffsetsIgnoreWrites :
    ∀ off ∈ [0x24, 0x30, 0x34, 0xFC],
      let s := facing stateA (.write (off : Nat) 4 1#32)
      s.rst = false ∧ 0x24 ≤ off ∧ off ≤ 0xFC ∧ off % 4 = 0 ∧ s.script = .write (off : Nat) 4 1#32 :: [] := by
  decide +kernel

theorem witness_ReadsAnswerTheRegisterAndChangeNothing :
    (∀ p ∈ [((0x00 : Nat), Reg.cmd), (0x30, .aboxsize)], let s := facing stateA (.read (p.1 : Int) 4)
      s.rst = false ∧
      p ∈ [(0x00, Reg.cmd), (0x04, .status), (0x08, .ctrl), (0x0C, .prime), (0x10, .rounds), (0x14, .boxsize),
        (0x18, .seedLo), (0x1C, .seedHi), (0x20, .din), (0x24, .dout), (0x28, .aprime), (0x2C, .arounds),
        (0x30, .aboxsize)] ∧ s.script = .read (p.1 : Int) 4 :: []) ∧
    (∀ off ∈ [0x34, 0xFC], let s := facing stateA (.read (off : Nat) 4)
      s.rst = false ∧ 0x34 ≤ off ∧ off ≤ 0xFC ∧ off % 4 = 0 ∧ s.script = .read (off : Nat) 4 :: []) := by decide +kernel

/-- Misaligned at both ends of the window, and aligned with a wrong size, with rst released and asserted. -/
theorem witness_RefusedAccessIsABusErrorWithoutEffect :
    ∀ s ∈ [stateA, stateA.assertReset], ∀ a ∈ [((1 : Int), 4), (255, 4), (0, 1), (252, 8)],
      (0 ≤ a.1 ∧ a.1 < 256 ∧ (a.1 % 4 ≠ 0 ∨ a.2 ≠ 4)) ∧
      (facing s (.read a.1 a.2)).script = .read a.1 a.2 :: [] ∧
      (facing s (.write a.1 a.2 1#32)).script = .write a.1 a.2 1#32 :: [] := by decide +kernel

theorem witness_AccessOutsideTheWindowStops :
    ∀ off ∈ [(-1 : Int), 256], (off < 0 ∨ 256 ≤ off) ∧ (facing stateA (.read off 4)).script = .read off 4 :: [] ∧
      (facing stateA (.write off 4 1#32)).script = .write off 4 1#32 :: [] := by decide +kernel

theorem witness_InterruptFollowsCompletion : (0x00000002#32 : Word).getLsbD 1 = true := by decide

theorem witness_ResetTakesEveryRegisterToItsValue :
    (overrun .assertReset).script = .assertReset :: [] ∧ (overrun .assertReset).status.busy = true := by decide +kernel

/-- Aligned and misaligned accesses up to the end of the window. -/
theorem witness_NothingHappensWhileResetIsHeld :
    stateA.assertReset.rst = true ∧ stateA.assertReset.script = [] ∧
    (facing stateA.assertReset .engine).script = .engine :: [] ∧
    (∀ off ∈ [(0 : Int), 252, 255], 0 ≤ off ∧ off < 256 ∧
      (facing stateA.assertReset (.read off 4)).script = .read off 4 :: [] ∧
      (facing stateA.assertReset (.write off 4 1#32)).script = .write off 4 1#32 :: []) := by decide +kernel

/-- One word for each of the three results. -/
theorem witness_FirstCommandAfterReset :
    decode 0x00000000#32 = .ok .nop ∧ decode 0x00000001#32 = .ok .configure ∧
    decode 0x0000FF08#32 = .ok (.rkey 255) := by decide

/-- A configured state of the invariant that takes a step. -/
theorem witness_EveryStepKeepsTheInvariant : ∃ t, stateSmall.Inv ∧ step stateSmall = .next t := ⟨_, stateSmall_inv, rfl⟩

/-- A host step, a reset, and a CONFIGURE, which each meet the hypothesis. -/
theorem witness_OnlyConfigureAndResetChangeTheActiveConfiguration :
    (∃ t, step (overrun (.read 4 4)) = .next t) ∧ (∃ t, step (overrun .assertReset) = .next t) ∧
    (∃ t, step (staged 5 1 4 0#64) = .next t) := ⟨⟨_, rfl⟩, ⟨_, rfl⟩, ⟨_, rfl⟩⟩

theorem witness_DoutChangesOnlyWithAnOkResult :
    (∃ t, step (overrun (.read 4 4)) = .next t) ∧ (∃ t, step (overrun .assertReset) = .next t) ∧
    (∃ t, step (pending stateA 0x1234#16 0x00000002#32) = .next t) := ⟨⟨_, rfl⟩, ⟨_, rfl⟩, ⟨_, rfl⟩⟩

/-- Accesses at both ends of the window between issue and perform. -/
theorem witness_HostAccessesDoNotReachThePendingCommand :
    let s := stateA.issue 0x00000002#32
    s.rst = false ∧ s.status.busy = true ∧
    ∀ u ∈ [Turn.read 0 4, .write 255 1 7#32], (∃ off size, u = .read off size ∧ 0 ≤ off ∧ off < 256) ∨
      (∃ off size v, u = .write off size v ∧ 0 ≤ off ∧ off < 256) := by
  refine ⟨rfl, rfl, fun u hu => ?_⟩
  simp only [List.mem_cons, List.not_mem_nil, or_false] at hu
  rcases hu with rfl | rfl
  · exact .inl ⟨0, 4, rfl, by norm_num, by norm_num⟩
  · exact .inr ⟨255, 1, 7#32, rfl, by norm_num, by norm_num⟩

theorem witness_PendingCommandIsEventuallyPerformed :
    let s := overrun (.write 255 1 7#32)
    s.rst = false ∧ s.status.busy = true ∧
    ∀ u ∈ s.script, (∃ off size, u = .read off size ∧ 0 ≤ off ∧ off < 256) ∨
      (∃ off size v, u = .write off size v ∧ 0 ≤ off ∧ off < 256) := by
  refine ⟨rfl, rfl, fun u hu => ?_⟩
  simp only [overrun, facing, List.mem_cons, List.not_mem_nil, or_false] at hu
  subst hu
  exact .inr ⟨255, 1, 7#32, rfl, by norm_num, by norm_num⟩

/-- A message whose character at the one odd index is not 0. -/
theorem witness_CodecDropsZeroCharactersAtOddIndexes :
    ∀ i, i < [0#8, 1#8].length → i % 2 = 1 → [0#8, 1#8].getD i 0#8 ≠ 0#8 := by decide

theorem witness_CodecPacksTwoCharactersToABlock : 1 < ([1#8, 2#8, 3#8].length + 1) / 2 := by decide

/-- A run of an ENCRYPT under an active configuration, from a state whose unspecified contents can be replaced. -/
theorem witness_UnspecifiedContentsAreNeverObservedAlongARun :
    let s := pending stateA 0x1234#16 0x00000002#32
    0 < s.activeBox ∧ s.specifiedAgree stateA'.boxram stateA'.keyram ∧
    ∃ t : State, Sys2Proof.core.run 1 s = Host.Outcome.next t :=
  ⟨by decide +kernel, fun _ => by decide +kernel, _, rfl⟩

/-- A finished run with a turn of the engine and a release of rst left. -/
theorem witness_FinishedRunKeepsItsObservation :
    let s : State := { stateA with script := [.engine, .releaseReset] }
    s.runOver = true ∧ ∃ t, step s = .next t := ⟨by decide +kernel, _, rfl⟩

end Sys2Proof.Tests
end

section
/-! SUPPORT. The state family, part 1: what one step does, as one inductive relation over the turns, and the part of the
state that only CONFIGURE and reset write. -/

namespace Sys2Proof.Machine

/-! ### The turn a step takes (20_memory.md R210; log 6) -/

/-- An empty script and a script that begins with the engine's turn are one case. -/
theorem step_eq_takeTurn (s : State) :
    step s = State.takeTurn { s with script := s.script.tail } (s.script.headD .engine) := by
  cases h : s.script with
  | nil =>
    have hs : ({ s with script := [] } : State) = s := by rw [← h]
    simp [step_empty s h, State.takeTurn, hs]
  | cons u ts => simp [step_cons s u ts h]

theorem headD_engine_iff (ts : List Turn) : ts.headD .engine = .engine ↔ ts = [] ∨ ∃ us, ts = .engine :: us := by
  cases ts <;> simp

theorem headD_assertReset_iff (ts : List Turn) : ts.headD .engine = .assertReset ↔ ∃ us, ts = .assertReset :: us := by
  cases ts <;> simp

/-- Everything one turn can do: the idle engine, the perform step, an access that only records its response, an accepted
write of a register, and the two turns of the reset input. -/
inductive TurnEffect (s : State) : Turn → State → Prop
  | idle (h : s.rst = true ∨ s.status.busy = false) : TurnEffect s .engine s
  | performed {t : State} (hr : s.rst = false) (hb : s.status.busy = true) (h : s.perform = .next t) :
      TurnEffect s .engine t
  | answered {u : Turn} (r : Response) : TurnEffect s u (s.respond r)
  | written {u : Turn} (hr : s.rst = false) (reg : Reg) (v : Word) (r : Response) :
      TurnEffect s u ((s.writeReg reg v).respond r)
  | asserted : TurnEffect s .assertReset s.assertReset
  | released : TurnEffect s .releaseReset s.releaseReset

theorem turnEffect_of_engineTurn (s t : State) (h : s.engineTurn = .next t) : TurnEffect s .engine t := by
  obtain ⟨rfl, hi⟩ | ⟨hr, hb, i, hd, he⟩ | ⟨hr, hb, ⟨e, hd⟩, rfl⟩ := engineTurn_next s t h
  · exact .idle hi
  · exact .performed hr hb ((perform_ok s i hd).trans he)
  · exact .performed hr hb (perform_bad s e hd)

theorem turnEffect_of_takeTurn (s t : State) (u : Turn) (h : s.takeTurn u = .next t) : TurnEffect s u t := by
  cases u with
  | engine => exact turnEffect_of_engineTurn s t h
  | read off size =>
    obtain ⟨r, rfl⟩ := busRead_next s t off size h
    exact .answered r
  | write off size v =>
    obtain ⟨r, rfl⟩ | ⟨hr, reg, r, -, rfl⟩ := busWrite_next s t off size v h
    · exact .answered r
    · exact .written hr reg v r
  | assertReset => cases h; exact .asserted
  | releaseReset => cases h; exact .released

/-- What a step can do, of the state with the turn taken off its script. -/
theorem turnEffect_of_step (s t : State) (h : step s = .next t) :
    TurnEffect { s with script := s.script.tail } (s.script.headD .engine) t :=
  turnEffect_of_takeTurn _ t _ (step_eq_takeTurn s ▸ h)

/-- What the perform step can do: a completion with or without a release of the working registers, or a CONFIGURE
(40_command_config.md R402, R405, R406). -/
theorem perform_cases (s t : State) (h : s.perform = .next t) :
    (∃ code out, t = s.complete code out) ∨ (∃ code out, t = (s.complete code out).releaseDatapath) ∨
    (decode s.pend.w = .ok .configure ∧ execConfigure s = .next t) := by
  cases hd : decode s.pend.w with
  | ok i =>
    rw [perform_ok s i hd] at h
    obtain h | h | ⟨rfl, h⟩ := exec_cases i s t h
    · exact .inl h
    · exact .inr (.inl h)
    · exact .inr (.inr ⟨rfl, h⟩)
  | error e =>
    rw [perform_bad s e hd] at h
    cases h
    exact .inl ⟨.badCommand, none, rfl⟩

/-! ### The active configuration with its arrays (10_state.md R112, R120, R121) -/

/-- `t` has the active configuration, the box and the keys of `s`. -/
structure State.SameConfiguration (s t : State) : Prop where
  cfgValid : t.status.cfgValid = s.status.cfgValid
  aprime : t.aprime = s.aprime
  arounds : t.arounds = s.arounds
  aboxsize : t.aboxsize = s.aboxsize
  boxram : t.boxram = s.boxram
  keyram : t.keyram = s.keyram

theorem sameConfiguration_refl (s : State) : s.SameConfiguration s := ⟨rfl, rfl, rfl, rfl, rfl, rfl⟩

theorem sameConfiguration_respond (s : State) (r : Response) : s.SameConfiguration (s.respond r) :=
  ⟨rfl, rfl, rfl, rfl, rfl, rfl⟩

theorem sameConfiguration_releaseReset (s : State) : s.SameConfiguration s.releaseReset :=
  ⟨rfl, rfl, rfl, rfl, rfl, rfl⟩

theorem sameConfiguration_complete (s : State) (code : ResultCode) (out : Option Block) :
    s.SameConfiguration (s.complete code out) := ⟨rfl, rfl, rfl, rfl, rfl, rfl⟩

theorem sameConfiguration_releaseDatapath (s : State) : s.SameConfiguration s.releaseDatapath :=
  ⟨rfl, rfl, rfl, rfl, rfl, rfl⟩

theorem sameConfiguration_writeReg (s : State) (r : Reg) (v : Word) : s.SameConfiguration (s.writeReg r v) := by
  obtain ⟨hcfg, -, -, hp, hr, hb, hbox, hkey, -⟩ := writeReg_frame s r v
  exact ⟨hcfg, hp, hr, hb, hbox, hkey⟩

theorem State.SameConfiguration.trans {s t u : State} (h : s.SameConfiguration t) (h' : t.SameConfiguration u) :
    s.SameConfiguration u :=
  ⟨h'.cfgValid.trans h.cfgValid, h'.aprime.trans h.aprime, h'.arounds.trans h.arounds, h'.aboxsize.trans h.aboxsize,
    h'.boxram.trans h.boxram, h'.keyram.trans h.keyram⟩

end Sys2Proof.Machine
end

section
/-! SUPPORT. The state family, part 2: the numbers CONFIGURE computes fit the fields that hold them. -/

namespace Sys2Proof.Machine

/-! ### The primality verdict (40_command_config.md R409) -/

/-- Trial division finds a divisor exactly when one stands among its candidates up to the square root. -/
theorem noDivisorFrom_iff (n fuel d : Nat) :
    noDivisorFrom n fuel d = true ↔ ∀ e, d ≤ e → e < d + fuel → e * e ≤ n → ¬ e ∣ n := by
  induction fuel generalizing d with
  | zero => simp only [noDivisorFrom, true_iff]; intro e h1 h2; omega
  | succ fuel ih =>
    rw [noDivisorFrom]
    split
    · next hlt =>
      simp only [true_iff]
      intro e hde _ hen
      have := Nat.mul_le_mul hde hde
      omega
    · next hle =>
      split
      · next hmod =>
        simp only [Bool.false_eq_true, false_iff]
        exact fun h => h d le_rfl (by omega) (by omega) (Nat.dvd_of_mod_eq_zero hmod)
      · next hmod =>
        rw [ih]
        refine ⟨fun h e hde hlt hen => ?_, fun h e hde hlt hen => h e (by omega) (by omega) hen⟩
        obtain rfl | hne := eq_or_ne e d
        · exact fun hdvd => hmod (Nat.mod_eq_zero_of_dvd hdvd)
        · exact h e (by omega) (by omega) hen

/-- The engine's verdict is the definition's. -/
theorem isPrime_iff (n : Nat) : isPrime n = true ↔ Nat.Prime n := by
  rw [isPrime, Bool.and_eq_true, decide_eq_true_iff, noDivisorFrom_iff, Nat.prime_def_le_sqrt]
  refine and_congr_right fun hn => ⟨fun h m hm hsq => ?_, fun h m hm _ hmm => h m hm (Nat.le_sqrt.mpr hmm)⟩
  exact h m hm (by have := Nat.sqrt_le_self n; omega) (Nat.le_sqrt.mp hsq)

/-! ### Digits and keys (41_sequence_sbox.md R453, 42_key_schedule.md R502) -/

theorem remainder_lt (p k : Nat) (hp : 2 ≤ p) : remainder p k < p := by
  cases k with
  | zero => rw [remainder_zero]; omega
  | succ k => rw [remainder_succ]; exact Nat.mod_lt _ (by omega)

theorem digitOf_lt_ten (phase p j : Nat) (hp : 2 ≤ p) : digitOf phase p j < 10 := by
  have hr := remainder_lt p (j + phase) hp
  exact Nat.div_lt_of_lt_mul (by omega)

theorem keysFrom_getD_lt (kdf : Int → Nat → Nat → Nat) (p : Nat) (cur : Int) (i n j : Nat) (hp : 0 < p) :
    (keysFrom kdf p cur i n).getD j 0 < p := by
  induction n generalizing cur i j with
  | zero => simpa [keysFrom] using hp
  | succ n ih =>
    cases j with
    | zero => simpa [keysFrom] using Nat.mod_lt _ hp
    | succ j => simpa [keysFrom] using ih _ (i + 1) j

theorem keySchedule_getD_lt (kdf : Int → Nat → Nat → Nat) (seed : Int) (p r j : Nat) (hp : 0 < p) :
    (keySchedule kdf seed p r).getD j 0 < p := keysFrom_getD_lt kdf p seed 0 r j hp

/-! ### The active configuration after CONFIGURE -/

theorem succeedConfigure_activePrime (s : State) (p r b : Nat) (seed : Int) (hp : p < 2 ^ 16) :
    (s.succeedConfigure p r b seed).activePrime = p := by
  simpa [State.activePrime] using hp

theorem succeedConfigure_activeRounds (s : State) (p r b : Nat) (seed : Int) (hr : r < 2 ^ 8) :
    (s.succeedConfigure p r b seed).activeRounds = r := by
  simpa [State.activeRounds] using hr

theorem succeedConfigure_activeBox (s : State) (p r b : Nat) (seed : Int) (hb : b < 2 ^ 16) :
    (s.succeedConfigure p r b seed).activeBox = b := by
  simpa [State.activeBox] using hb

/-- A digit fits its BOXRAM entry. -/
theorem succeedConfigure_box (s : State) (p r b : Nat) (seed : Int) (j : Nat) (hp : 2 ≤ p) (hj : j < b)
    (hb : b ≤ Config.boxMax) :
    readArray (s.succeedConfigure p r b seed).boxram j = digitOf Config.dseqPhase p j := by
  have hd := digitOf_lt_ten Config.dseqPhase p j hp
  rw [succeedConfigure_boxram, readArray_boxContents _ _ _ _ hj (by omega), BitVec.toNat_ofNat]
  omega

/-- A round key fits its KEYRAM entry. -/
theorem succeedConfigure_key (s : State) (p r b : Nat) (seed : Int) (i : Nat) (hp : 0 < p) (hp' : p < 2 ^ 16)
    (hi : i < r) (hr : r < 2 ^ 8) :
    readArray (s.succeedConfigure p r b seed).keyram i = (keySchedule Config.ksKdf seed p r).getD i 0 := by
  have hk := keySchedule_getD_lt Config.ksKdf seed p r i hp
  have hmax : Config.roundsMax = 255 := rfl
  rw [succeedConfigure_keyram, readArray_keyContents _ _ _ _ hi (by omega), BitVec.toNat_ofNat]
  omega

theorem stagedPrime_lt (s : State) : s.stagedPrime < 2 ^ 16 := s.pend.sp.isLt

theorem stagedRounds_lt (s : State) : s.stagedRounds < 2 ^ 8 := s.pend.sr.isLt

theorem stagedBox_lt (s : State) : s.stagedBox < 2 ^ 16 := s.pend.sb.isLt

end Sys2Proof.Machine
end

section
/-! CERTIFICATE. The state family, part 3: the invariant at reset and along every step. -/

namespace Sys2Proof.Machine

/-- A state that keeps the configuration of a good one needs only the clauses about STATUS and reset anew. -/
theorem State.Inv.of_sameConfiguration {s t : State} (hs : s.Inv) (hc : s.SameConfiguration t)
    (hstatus : ¬ (t.status.busy = true ∧ t.status.done = true)) (hres : t.status.res.toNat ≤ 7)
    (hreset : t.rst = true → t.registersReset) : t.Inv := by
  obtain ⟨hcfg, hp, hr, hb, hbox, hkey⟩ := hc
  have hprime : t.activePrime = s.activePrime := congrArg BitVec.toNat hp
  have hrounds : t.activeRounds = s.activeRounds := congrArg BitVec.toNat hr
  have hsize : t.activeBox = s.activeBox := congrArg BitVec.toNat hb
  exact {
    notBusyAndDone := hstatus
    resultLegal := hres
    boxDepth := hbox ▸ hs.boxDepth
    keyDepth := hkey ▸ hs.keyDepth
    primeLegal := by rw [hcfg, hprime]; exact hs.primeLegal
    boxLegal := by rw [hcfg, hprime, hsize]; exact hs.boxLegal
    roundsLegal := by rw [hcfg, hrounds]; exact hs.roundsLegal
    boxBuilt := by rw [hcfg, State.boxBuilt, hbox, hprime, hsize]; exact hs.boxBuilt
    keysBuilt := by rw [hcfg, State.keysBuilt, hkey, hprime, hrounds]; exact hs.keysBuilt
    activeCleared := by rw [hcfg, hp, hr, hb]; exact hs.activeCleared
    heldInReset := hreset }

theorem Inv_withScript {s : State} (hs : s.Inv) (ts : List Turn) : State.Inv { s with script := ts } :=
  hs.of_sameConfiguration ⟨rfl, rfl, rfl, rfl, rfl, rfl⟩ hs.notBusyAndDone hs.resultLegal hs.heldInReset

theorem Inv_respond {s : State} (hs : s.Inv) (r : Response) : (s.respond r).Inv :=
  hs.of_sameConfiguration (sameConfiguration_respond s r) hs.notBusyAndDone hs.resultLegal hs.heldInReset

theorem Inv_releaseReset {s : State} (hs : s.Inv) : s.releaseReset.Inv :=
  hs.of_sameConfiguration (sameConfiguration_releaseReset s) hs.notBusyAndDone hs.resultLegal
    (fun h => by simp at h)

theorem Inv_complete {s : State} (hs : s.Inv) (hr : s.rst = false) (code : ResultCode) (out : Option Block) :
    (s.complete code out).Inv :=
  hs.of_sameConfiguration (sameConfiguration_complete s code out) (by simp) (ResultCode_bits_le code)
    (fun h => by simp [hr] at h)

theorem Inv_releaseDatapath {s : State} (hs : s.Inv) : s.releaseDatapath.Inv :=
  hs.of_sameConfiguration (sameConfiguration_releaseDatapath s) hs.notBusyAndDone hs.resultLegal hs.heldInReset

/-- An issue clears DONE when it sets BUSY, and no other write sets either (40_command_config.md R400, 10_state.md R103). -/
theorem writeReg_notBusyAndDone (s : State) (r : Reg) (v : Word)
    (h : ¬ (s.status.busy = true ∧ s.status.done = true)) :
    ¬ ((s.writeReg r v).status.busy = true ∧ (s.writeReg r v).status.done = true) := by
  cases r
  case cmd =>
    obtain ⟨-, hw⟩ | ⟨-, hw⟩ := writeCmd_cases s v
    · simpa [State.writeReg, hw] using h
    · simp [State.writeReg, hw]
  case status =>
    simp only [State.writeReg, ackStatus_status, Status_writeOneToClear_busy, Status_writeOneToClear_done,
      Bool.and_eq_true]
    exact fun ⟨hb, hd, _⟩ => h ⟨hb, hd⟩
  all_goals exact h

theorem Inv_writeReg {s : State} (hs : s.Inv) (hr : s.rst = false) (r : Reg) (v : Word) : (s.writeReg r v).Inv := by
  obtain ⟨-, hres, -, -, -, -, -, -, -, hrst, -⟩ := writeReg_frame s r v
  refine hs.of_sameConfiguration (sameConfiguration_writeReg s r v) (writeReg_notBusyAndDone s r v hs.notBusyAndDone)
    (hres ▸ hs.resultLegal) (fun h => ?_)
  rw [hrst, hr] at h
  cases h

/-- Without an active configuration the clauses about the box and the keys say nothing (10_state.md R120, R121). -/
theorem Inv_of_inactive (s : State) (hcfg : s.status.cfgValid = false)
    (hstatus : ¬ (s.status.busy = true ∧ s.status.done = true)) (hres : s.status.res.toNat ≤ 7)
    (hbox : s.boxram.length = Config.boxMax) (hkey : s.keyram.length = Config.roundsMax)
    (hactive : s.aprime = 0#16 ∧ s.arounds = 0#8 ∧ s.aboxsize = 0#16) (hreset : s.rst = true → s.registersReset) :
    s.Inv := by
  have hno : ∀ {P : Prop}, s.status.cfgValid = true → P := fun h => by rw [hcfg] at h; cases h
  exact {
    notBusyAndDone := hstatus
    resultLegal := hres
    boxDepth := hbox
    keyDepth := hkey
    primeLegal := hno
    boxLegal := hno
    roundsLegal := hno
    boxBuilt := hno
    keysBuilt := hno
    activeCleared := fun _ => hactive
    heldInReset := hreset }

theorem Inv_reset : State.reset.Inv :=
  Inv_of_inactive State.reset rfl (by decide) (by decide) List.length_replicate List.length_replicate
    ⟨rfl, rfl, rfl⟩ (fun h => by cases h)

theorem registersReset_assertReset (s : State) : s.assertReset.registersReset :=
  ⟨rfl, rfl, rfl, rfl, rfl, rfl, rfl, rfl, rfl, rfl, rfl, rfl⟩

/-- The assertion of rst establishes the invariant from any state (70_reset_and_hazards.md R800). -/
theorem Inv_assertReset (s : State) : s.assertReset.Inv :=
  Inv_of_inactive s.assertReset rfl Inv_reset.notBusyAndDone Inv_reset.resultLegal (boxContents_length _ _ _)
    (keyContents_length _ _ _) ⟨rfl, rfl, rfl⟩ (fun _ => registersReset_assertReset s)

/-- A failed CONFIGURE establishes the invariant from any state out of reset (40_command_config.md R406). -/
theorem Inv_failConfigure (s : State) (code : ResultCode) (hr : s.rst = false) : (s.failConfigure code).Inv :=
  Inv_of_inactive (s.failConfigure code) rfl (by simp) (ResultCode_bits_le code) (boxContents_length _ _ _)
    (keyContents_length _ _ _) ⟨rfl, rfl, rfl⟩ (fun h => by simp [hr] at h)

/-- A CONFIGURE that passes its checks establishes the invariant from any state out of reset (40_command_config.md R404,
R405). -/
theorem Inv_succeedConfigure (s : State) (p r b : Nat) (seed : BitVec 64) (hrst : s.rst = false) (hp : p < 2 ^ 16)
    (hr : r < 2 ^ 8) (hb : b < 2 ^ 16) (hok : checkConfig Config.boxMax p b r = .ok) :
    (s.succeedConfigure p r b seed.toInt).Inv := by
  obtain ⟨hp5, hprime, hb1, hbp, hbmax, hr1⟩ := checkConfig_ok _ _ _ _ hok
  have ep := succeedConfigure_activePrime s p r b seed.toInt hp
  have er := succeedConfigure_activeRounds s p r b seed.toInt hr
  have eb := succeedConfigure_activeBox s p r b seed.toInt hb
  exact {
    notBusyAndDone := by simp
    resultLegal := ResultCode_bits_le .ok
    boxDepth := boxContents_length _ _ _
    keyDepth := keyContents_length _ _ _
    primeLegal := fun _ => by rw [ep]; exact ⟨(isPrime_iff p).mp hprime, hp5⟩
    boxLegal := fun _ => by rw [ep, eb]; exact ⟨hb1, hbp, hbmax⟩
    roundsLegal := fun _ => by rw [er]; exact hr1
    boxBuilt := fun _ => by
      rw [State.boxBuilt, eb, ep]
      exact fun j hj => succeedConfigure_box s p r b _ j (by omega) hj hbmax
    keysBuilt := fun _ => by
      rw [State.keysBuilt, er, ep]
      exact ⟨seed, fun i hi => succeedConfigure_key s p r b _ i (by omega) hp hi hr⟩
    activeCleared := fun h => by simp at h
    heldInReset := fun h => by simp [hrst] at h }

theorem Inv_execConfigure (s t : State) (hr : s.rst = false) (h : execConfigure s = .next t) : t.Inv := by
  obtain ⟨hok, rfl⟩ | ⟨code, -, -, rfl⟩ := execConfigure_next s t h
  · exact Inv_succeedConfigure s _ _ _ s.pend.sseed hr (stagedPrime_lt s) (stagedRounds_lt s) (stagedBox_lt s) hok
  · exact Inv_failConfigure s code hr

theorem Inv_perform {s t : State} (hs : s.Inv) (hr : s.rst = false) (h : s.perform = .next t) : t.Inv := by
  obtain ⟨code, out, rfl⟩ | ⟨code, out, rfl⟩ | ⟨-, hc⟩ := perform_cases s t h
  · exact Inv_complete hs hr code out
  · exact Inv_releaseDatapath (Inv_complete hs hr code out)
  · exact Inv_execConfigure s t hr hc

theorem Inv_turnEffect {s t : State} {u : Turn} (hs : s.Inv) (h : TurnEffect s u t) : t.Inv := by
  cases h with
  | idle _ => exact hs
  | performed hr _ hp => exact Inv_perform hs hr hp
  | answered r => exact Inv_respond hs r
  | written hr reg v r => exact Inv_respond (Inv_writeReg hs hr reg v) r
  | asserted => exact Inv_assertReset s
  | released => exact Inv_releaseReset hs

/-- Settles O51: every effect of a turn keeps the invariant, CONFIGURE and reset by establishing it anew. -/
theorem everyStepKeepsTheInvariant : Obligations.EveryStepKeepsTheInvariant :=
  fun s t hs h => Inv_turnEffect (Inv_withScript hs s.script.tail) (turnEffect_of_step s t h)

/-- Settles O50: the reset state has no active configuration. -/
theorem invariantHoldsAtReset : Obligations.InvariantHoldsAtReset := Inv_reset

end Sys2Proof.Machine
end

section
/-! CERTIFICATE. The state family, part 4: which steps can change the active configuration and DOUT. -/

namespace Sys2Proof.Machine

/-! ### What a decoded word tells of its fields (30_encoding.md R303) -/

theorem decodeOpcode_ok (op idx : Nat) (i : Instr) (h : decodeOpcode op idx = .ok i) : op = i.opcode := by
  unfold decodeOpcode at h
  split at h <;> cases h <;> rfl

theorem decode_ok_fields (w : Word) (i : Instr) (h : decode w = .ok i) :
    rsv1Field w = 0#16 ∧ rsv0Field w = 0#4 ∧ (opField w).toNat = i.opcode := by
  unfold decode at h
  split at h
  · cases h
  · next h1 =>
    split at h
    · cases h
    · next h0 => exact ⟨not_ne_iff.mp h1, not_ne_iff.mp h0, decodeOpcode_ok _ _ i h⟩

/-- A word is its four fields, RSV1 first (30_encoding.md R300). -/
theorem word_eq_fields (w : Word) : w = rsv1Field w ++ (idxField w ++ (rsv0Field w ++ opField w)) := by
  apply BitVec.eq_of_getLsbD_eq
  intro k hk
  simp only [rsv1Field, idxField, rsv0Field, opField, BitVec.getLsbD_append, BitVec.getLsbD_extractLsb']
  obtain h | h | h | h : k < 4 ∨ (4 ≤ k ∧ k < 8) ∨ (8 ≤ k ∧ k < 16) ∨ 16 ≤ k := by omega
  · simp [h, show k < 8 by omega, show k < 16 by omega]
  · simp [h, show ¬ k < 4 by omega, show k < 16 by omega, show k - 4 < 4 by omega]
  · simp [h, show ¬ k < 8 by omega, show k - 8 < 8 by omega]
  · simp [show ¬ k < 16 by omega, h, show k - 16 < 16 by omega]

/-- The mask 0xFFFF00FF clears IDX and keeps the other fields. -/
theorem fields_and_outsideIdxMask (rsv1 : BitVec 16) (idx : BitVec 8) (rsv0 op : BitVec 4) :
    (rsv1 ++ (idx ++ (rsv0 ++ op)) : Word) &&& 0xFFFF00FF#32 = (rsv1 ++ (0#8 ++ (rsv0 ++ op)) : Word) := by
  have hmask : (0xFFFF00FF#32 : Word) =
      (BitVec.allOnes 16 ++ (0#8 ++ (BitVec.allOnes 4 ++ BitVec.allOnes 4)) : BitVec (16 + (8 + (4 + 4)))) := rfl
  rw [hmask]
  change (rsv1 ++ (idx ++ (rsv0 ++ op)) : BitVec (16 + (8 + (4 + 4)))) &&& _ = _
  simp only [BitVec.and_append, BitVec.and_allOnes, BitVec.and_zero]

/-- Outside IDX a word that decodes is its opcode alone (30_encoding.md R303, R305). -/
theorem decode_ok_outsideIdx (w : Word) (i : Instr) (h : decode w = .ok i) :
    w &&& 0xFFFF00FF#32 = BitVec.ofNat 32 i.opcode := by
  obtain ⟨h1, h0, hop⟩ := decode_ok_fields w i h
  have hop' : opField w = BitVec.ofNat 4 i.opcode := by rw [← hop, BitVec.ofNat_toNat, BitVec.setWidth_eq]
  rw [word_eq_fields w, h1, h0, hop', fields_and_outsideIdxMask]
  cases i <;> (rw [Instr.opcode]; rfl)

/-! ### The active configuration (10_state.md R109, 70_reset_and_hazards.md R824) -/

/-- Only CONFIGURE's perform step and the assertion of rst write the active configuration. -/
theorem turnEffect_configuration {s t : State} {u : Turn} (h : TurnEffect s u t) :
    s.SameConfiguration t ∨ u = .assertReset ∨
    (u = .engine ∧ s.rst = false ∧ s.status.busy = true ∧ decode s.pend.w = .ok .configure) := by
  cases h with
  | idle _ => exact .inl (sameConfiguration_refl s)
  | performed hr hb hp =>
    obtain ⟨code, out, rfl⟩ | ⟨code, out, rfl⟩ | ⟨hd, -⟩ := perform_cases s t hp
    · exact .inl (sameConfiguration_complete s code out)
    · exact .inl ((sameConfiguration_complete s code out).trans (sameConfiguration_releaseDatapath _))
    · exact .inr (.inr ⟨rfl, hr, hb, hd⟩)
  | answered r => exact .inl (sameConfiguration_respond s r)
  | written _ reg v r => exact .inl ((sameConfiguration_writeReg s reg v).trans (sameConfiguration_respond _ r))
  | asserted => exact .inr (.inl rfl)
  | released => exact .inl (sameConfiguration_releaseReset s)

/-- Settles O52, by the effects of a turn; a word that decodes to CONFIGURE is 1 outside IDX. -/
theorem onlyConfigureAndResetChangeTheActiveConfiguration :
    Obligations.OnlyConfigureAndResetChangeTheActiveConfiguration := by
  intro s t h
  obtain hc | hu | ⟨hu, hr, hb, hd⟩ := turnEffect_configuration (turnEffect_of_step s t h)
  · exact .inl ⟨hc.aprime, hc.arounds, hc.aboxsize, hc.cfgValid, hc.boxram, hc.keyram⟩
  · exact .inr (.inl ((headD_assertReset_iff _).mp hu))
  · exact .inr (.inr ⟨hr, hb, decode_ok_outsideIdx _ _ hd, (headD_engine_iff _).mp hu⟩)

/-! ### DOUT (10_state.md R111, 60_exceptions.md R700) -/

theorem complete_dout_eq_or_ok (s : State) (code : ResultCode) (out : Option Block) :
    (s.complete code out).dout = s.dout ∨ (s.complete code out).status.res = 0#4 := by
  obtain rfl | hne := eq_or_ne code .ok
  · exact .inr rfl
  · exact .inl (by simp [hne])

theorem execConfigure_dout (s t : State) (h : execConfigure s = .next t) : t.dout = s.dout := by
  obtain ⟨-, rfl⟩ | ⟨code, -, -, rfl⟩ := execConfigure_next s t h <;> simp

/-- The commands other than NOP and CONFIGURE are those with a value to produce (30_encoding.md R302). -/
theorem opcode_cases (i : Instr) : i = .nop ∨ i = .configure ∨ (2 ≤ i.opcode ∧ i.opcode ≤ 8) := by
  cases i <;> simp [Instr.opcode]

theorem exec_dout (i : Instr) (s t : State) (h : exec i s = .next t) :
    t.dout = s.dout ∨ (t.status.res = 0#4 ∧ 2 ≤ i.opcode ∧ i.opcode ≤ 8) := by
  obtain rfl | rfl | hop := opcode_cases i
  · obtain rfl := execNop_next s t h
    exact .inl rfl
  · exact .inl (execConfigure_dout s t h)
  · obtain ⟨code, out, rfl⟩ | ⟨code, out, rfl⟩ | ⟨-, hc⟩ := exec_cases i s t h
    · exact (complete_dout_eq_or_ok s code out).imp_right (⟨·, hop⟩)
    · exact (complete_dout_eq_or_ok s code out).imp_right (⟨·, hop⟩)
    · exact .inl (execConfigure_dout s t hc)

theorem perform_dout (s t : State) (h : s.perform = .next t) :
    t.dout = s.dout ∨ (t.status.res = 0#4 ∧ 2 ≤ (opField s.pend.w).toNat ∧ (opField s.pend.w).toNat ≤ 8) := by
  cases hd : decode s.pend.w with
  | ok i =>
    obtain ⟨-, -, hop⟩ := decode_ok_fields _ i hd
    rw [hop]
    exact exec_dout i s t ((perform_ok s i hd).symm.trans h)
  | error e =>
    rw [perform_bad s e hd] at h
    cases h
    exact .inl rfl

theorem turnEffect_dout {s t : State} {u : Turn} (h : TurnEffect s u t) :
    t.dout = s.dout ∨ u = .assertReset ∨
    (u = .engine ∧ s.rst = false ∧ s.status.busy = true ∧ t.status.res = 0#4 ∧
      2 ≤ (opField s.pend.w).toNat ∧ (opField s.pend.w).toNat ≤ 8) := by
  cases h with
  | idle _ => exact .inl rfl
  | performed hr hb hp => exact (perform_dout s t hp).imp_right fun hres => .inr ⟨rfl, hr, hb, hres⟩
  | answered r => exact .inl rfl
  | written _ reg v r =>
    obtain ⟨-, -, hdout, -⟩ := writeReg_frame s reg v
    exact .inl hdout
  | asserted => exact .inr (.inl rfl)
  | released => exact .inl rfl

/-- Settles O53, by the effects of a turn. -/
theorem doutChangesOnlyWithAnOkResult : Obligations.DoutChangesOnlyWithAnOkResult := by
  intro s t h
  obtain hd | hu | ⟨hu, hr, hb, hres, hlo, hhi⟩ := turnEffect_dout (turnEffect_of_step s t h)
  · exact .inl hd
  · exact .inr (.inl ((headD_assertReset_iff _).mp hu))
  · exact .inr (.inr ⟨hr, hb, (headD_engine_iff _).mp hu, hres, hlo, hhi⟩)

end Sys2Proof.Machine
end

section
/-! SUPPORT. The state family, part 5: two states that agree on what a perform step reads do the same there. -/

namespace Sys2Proof.Machine

/-! ### The operations a perform step can apply (40_command_config.md R402, R405, R406) -/

/-- The state updates of the perform step, their arguments fixed. -/
inductive PerformOp : (State → State) → Prop
  | complete (code : ResultCode) (out : Option Block) : PerformOp fun s => s.complete code out
  | completeBlock (out : Block) : PerformOp fun s => (s.complete .ok (some out)).releaseDatapath
  | succeed (p r b : Nat) (seed : Int) (hok : checkConfig Config.boxMax p b r = .ok) (hr : r < 2 ^ 8) (hb : b < 2 ^ 16) :
      PerformOp fun s => s.succeedConfigure p r b seed
  | fail (code : ResultCode) : PerformOp fun s => s.failConfigure code

/-- One operation takes `s` to `a` and `u` to `b`. -/
def State.DoAlike (s u a b : State) : Prop := ∃ f, PerformOp f ∧ a = f s ∧ b = f u

/-- `u` agrees with `s` on all that a perform step reads: PEND, the active configuration, and the arrays as the commands
look them up. -/
structure State.PerformAgree (s u : State) : Prop where
  pend : u.pend = s.pend
  cfgValid : u.status.cfgValid = s.status.cfgValid
  aprime : u.aprime = s.aprime
  arounds : u.arounds = s.arounds
  aboxsize : u.aboxsize = s.aboxsize
  boxLookup : s.status.cfgValid = true → ∀ v, u.boxLookup v = s.boxLookup v
  roundKey : s.status.cfgValid = true → ∀ i, i < s.activeRounds → u.roundKey i = s.roundKey i

/-! ### Operands and values of two states that agree -/

section
variable {s u : State}

theorem State.PerformAgree.activePrime (h : s.PerformAgree u) : u.activePrime = s.activePrime :=
  congrArg BitVec.toNat h.aprime

theorem State.PerformAgree.activeRounds (h : s.PerformAgree u) : u.activeRounds = s.activeRounds :=
  congrArg BitVec.toNat h.arounds

theorem State.PerformAgree.valueOperand (h : s.PerformAgree u) : u.valueOperand = s.valueOperand := by
  rw [State.valueOperand, h.pend, State.valueOperand]

theorem State.PerformAgree.halfOperand (h : s.PerformAgree u) : u.halfOperand = s.halfOperand := by
  rw [State.halfOperand, h.pend, State.halfOperand]

theorem State.PerformAgree.blockOperand (h : s.PerformAgree u) : u.blockOperand = s.blockOperand := by
  rw [State.blockOperand, h.pend, State.blockOperand]

theorem State.PerformAgree.digitAt (h : s.PerformAgree u) (j : Nat) : u.digitAt j = s.digitAt j := by
  rw [State.digitAt, h.activePrime, State.digitAt]

theorem State.PerformAgree.mixValue (h : s.PerformAgree u) (hc : s.status.cfgValid = true) (x : Nat) :
    u.mixValue x = s.mixValue x := by
  rw [State.mixValue, h.activePrime, h.boxLookup hc, State.mixValue]

theorem State.PerformAgree.roundValue (h : s.PerformAgree u) (hc : s.status.cfgValid = true) (x : Half) (i : Nat)
    (hi : i < s.activeRounds) : u.roundValue x i = s.roundValue x i := by
  rw [State.roundValue, h.activePrime, h.roundKey hc i hi, h.mixValue hc, State.roundValue]

/-- Of the working registers the encryption rounds read L and R alone, and of the round function its values at the round
counters they run through (44_block_cipher.md R601, R602). -/
theorem encRounds_congr (fr fr' : Half → Nat → Nat) (rc n : Nat) (d d' : Datapath) (hl : d.left = d'.left)
    (hr : d.right = d'.right) (hf : ∀ x i, i < rc + n → fr x i = fr' x i) :
    assembleBlock (encRounds fr rc n d) = assembleBlock (encRounds fr' rc n d') := by
  induction n generalizing rc d d' with
  | zero => simp only [encRounds, assembleBlock, hl, hr]
  | succ n ih =>
    have hround : fr d.right rc = fr' d'.right rc := hr ▸ hf d.right rc (by omega)
    refine ih (rc + 1) (encRound fr rc d) (encRound fr' rc d') hr ?_ (fun x i hi => hf x i (by omega))
    simp only [encRound, hl, hround]

/-- The decryption rounds, as `encRounds_congr` (44_block_cipher.md R603, R604). -/
theorem decRounds_congr (fr fr' : Half → Nat → Nat) (n : Nat) (d d' : Datapath) (hl : d.left = d'.left)
    (hr : d.right = d'.right) (hf : ∀ x i, i < n → fr x i = fr' x i) :
    assembleBlock (decRounds fr n d) = assembleBlock (decRounds fr' n d') := by
  induction n generalizing d d' with
  | zero => simp only [decRounds, assembleBlock, hl, hr]
  | succ n ih =>
    have hround : fr d.left n = fr' d'.left n := hl ▸ hf d.left n (by omega)
    refine ih (decRound fr n d) (decRound fr' n d') ?_ hl (fun x i hi => hf x i (by omega))
    simp only [decRound, hr, hround]

theorem State.PerformAgree.encBlock (h : s.PerformAgree u) (hc : s.status.cfgValid = true) (blk : Block) :
    u.encBlock blk = s.encBlock blk := by
  rw [State.encBlock, h.activeRounds, State.encBlock]
  exact encRounds_congr _ _ _ _ _ _ rfl rfl (fun x i hi => h.roundValue hc x i (by omega))

theorem State.PerformAgree.decBlock (h : s.PerformAgree u) (hc : s.status.cfgValid = true) (blk : Block) :
    u.decBlock blk = s.decBlock blk := by
  rw [State.decBlock, h.activeRounds, State.decBlock]
  exact decRounds_congr _ _ _ _ _ rfl rfl (fun x i hi => h.roundValue hc x i hi)

/-! ### The commands -/

theorem doAlike_raise (code : ResultCode) : s.DoAlike u (s.raise code) (u.raise code) :=
  ⟨_, .complete code none, rfl, rfl⟩

theorem doAlike_value {x y : Nat} (h : y = x) :
    s.DoAlike u (s.complete .ok (some (BitVec.ofNat 16 x))) (u.complete .ok (some (BitVec.ofNat 16 y))) :=
  ⟨_, .complete .ok (some (BitVec.ofNat 16 x)), rfl, by rw [h]⟩

theorem doAlike_block {x y : Block} (h : y = x) :
    s.DoAlike u (s.complete .ok (some x)).releaseDatapath (u.complete .ok (some y)).releaseDatapath :=
  ⟨_, .completeBlock x, rfl, by rw [h]⟩

theorem doAlike_whenConfigured {a b : State} (h : s.PerformAgree u) (hab : s.status.cfgValid = true → s.DoAlike u a b) :
    s.DoAlike u (s.whenConfigured a) (u.whenConfigured b) := by
  obtain ⟨hc, ha⟩ | ⟨hc, ha⟩ := whenConfigured_cases s a
  · rw [ha, State.whenConfigured, h.cfgValid, if_pos hc]
    exact hab hc
  · rw [ha, State.whenConfigured, h.cfgValid, hc]
    exact doAlike_raise .notConfigured

theorem doAlike_inRange {a b : State} {x y bound bound' : Nat} (hx : y = x) (hbound : bound' = bound)
    (hab : x < bound → s.DoAlike u a b) :
    s.DoAlike u (if x ≥ bound then s.raise .indexRange else a) (if y ≥ bound' then u.raise .indexRange else b) := by
  rw [hx, hbound]
  split
  · exact doAlike_raise .indexRange
  · exact hab (by omega)

theorem execConfigure_alike (h : s.PerformAgree u) :
    ∃ a b, execConfigure s = .next a ∧ execConfigure u = .next b ∧ s.DoAlike u a b := by
  have hp : u.stagedPrime = s.stagedPrime := congrArg (fun q => q.sp.toNat) h.pend
  have hr : u.stagedRounds = s.stagedRounds := congrArg (fun q => q.sr.toNat) h.pend
  have hb : u.stagedBox = s.stagedBox := congrArg (fun q => q.sb.toNat) h.pend
  have hseed : u.stagedSeed = s.stagedSeed := congrArg (fun q => q.sseed.toInt) h.pend
  refine ⟨_, _, rfl, rfl, ?_⟩
  rw [hp, hr, hb, hseed]
  split
  · next hok => exact ⟨_, .succeed _ _ _ _ hok (stagedRounds_lt s) (stagedBox_lt s), rfl, rfl⟩
  · exact ⟨_, .fail _, rfl, rfl⟩

/-- Every command applies one operation to two states that agree on what it reads. -/
theorem exec_alike (h : s.PerformAgree u) (i : Instr) :
    ∃ a b, exec i s = .next a ∧ exec i u = .next b ∧ s.DoAlike u a b := by
  cases i with
  | nop => exact ⟨_, _, rfl, rfl, _, .complete .ok none, rfl, rfl⟩
  | configure => exact execConfigure_alike h
  | encrypt =>
    exact ⟨_, _, rfl, rfl, doAlike_whenConfigured h fun hc => doAlike_block (by rw [h.blockOperand, h.encBlock hc])⟩
  | decrypt =>
    exact ⟨_, _, rfl, rfl, doAlike_whenConfigured h fun hc => doAlike_block (by rw [h.blockOperand, h.decBlock hc])⟩
  | fround idx =>
    exact ⟨_, _, rfl, rfl, doAlike_whenConfigured h fun hc => doAlike_inRange rfl h.activeRounds fun hi =>
      doAlike_value (by rw [h.halfOperand, h.roundValue hc _ _ hi])⟩
  | mix =>
    exact ⟨_, _, rfl, rfl, doAlike_whenConfigured h fun hc => doAlike_value (by rw [h.valueOperand, h.mixValue hc])⟩
  | sbox =>
    exact ⟨_, _, rfl, rfl, doAlike_whenConfigured h fun hc => doAlike_value (by rw [h.valueOperand, h.boxLookup hc])⟩
  | digit =>
    exact ⟨_, _, rfl, rfl, doAlike_whenConfigured h fun _ =>
      doAlike_inRange h.valueOperand (by rw [h.activePrime]) fun _ => doAlike_value (by rw [h.valueOperand, h.digitAt])⟩
  | rkey idx =>
    exact ⟨_, _, rfl, rfl, doAlike_whenConfigured h fun hc => doAlike_inRange rfl h.activeRounds fun hi =>
      doAlike_value (h.roundKey hc idx hi)⟩

theorem perform_alike (h : s.PerformAgree u) :
    ∃ a b, s.perform = .next a ∧ u.perform = .next b ∧ s.DoAlike u a b := by
  cases hd : decode s.pend.w with
  | ok i =>
    rw [perform_ok s i hd, perform_ok u i (h.pend ▸ hd)]
    exact exec_alike h i
  | error e => exact ⟨_, _, perform_bad s e hd, perform_bad u e (h.pend ▸ hd), doAlike_raise .badCommand⟩

end

end Sys2Proof.Machine
end

section
/-! CERTIFICATE. The state family, part 6: the contents that the spec leaves unspecified are never observed. -/

namespace Sys2Proof.Machine

/-- `u` is `s` but for unspecified contents, and an active box of `s` is not empty. -/
def State.SpecifiedEq (s u : State) : Prop :=
  (s.status.cfgValid = true → 0 < s.activeBox) ∧
  ∃ (box : List BoxEntry) (keys : List Block) (d : Datapath) (n : Nat),
    s.specifiedAgree box keys ∧ u = s.withUnspecified box keys d n

/-- What is specified in the arrays depends on the active configuration alone. -/
theorem specifiedEq_of_sameConfiguration {s t : State} {box : List BoxEntry} {keys : List Block}
    (hc : s.SameConfiguration t) (hb : s.status.cfgValid = true → 0 < s.activeBox) (ha : s.specifiedAgree box keys)
    (d : Datapath) (n : Nat) : t.SpecifiedEq (t.withUnspecified box keys d n) := by
  have hsize : t.activeBox = s.activeBox := congrArg BitVec.toNat hc.aboxsize
  have hrounds : t.activeRounds = s.activeRounds := congrArg BitVec.toNat hc.arounds
  refine ⟨by rw [hc.cfgValid, hsize]; exact hb, box, keys, d, n, ?_, rfl⟩
  rw [State.specifiedAgree, hc.cfgValid, hsize, hrounds, hc.boxram, hc.keyram]
  exact ha

/-- Without an active configuration all contents of the arrays are unspecified. -/
theorem specifiedEq_of_inactive (t : State) (box : List BoxEntry) (keys : List Block) (d : Datapath) (n : Nat)
    (h : t.status.cfgValid = false) : t.SpecifiedEq (t.withUnspecified box keys d n) :=
  ⟨fun h' => (by rw [h] at h'; cases h'), box, keys, d, n, specifiedAgree_inactive t box keys h, rfl⟩

theorem specifiedEq_withScript {s u : State} (h : s.SpecifiedEq u) (ts : List Turn) :
    State.SpecifiedEq { s with script := ts } { u with script := ts } := by
  obtain ⟨hb, box, keys, d, n, ha, rfl⟩ := h
  exact ⟨hb, box, keys, d, n, ha, rfl⟩

theorem State.SpecifiedEq.script {s u : State} (h : s.SpecifiedEq u) : u.script = s.script := by
  obtain ⟨-, _, _, _, _, -, rfl⟩ := h
  rfl

/-- SBOX reads below b and the rounds read below r, so no command reads an unspecified entry. -/
theorem State.SpecifiedEq.performAgree {s u : State} (h : s.SpecifiedEq u) : s.PerformAgree u := by
  obtain ⟨hb, box, keys, d, n, ha, rfl⟩ := h
  exact {
    pend := rfl
    cfgValid := rfl
    aprime := rfl
    arounds := rfl
    aboxsize := rfl
    boxLookup := fun hc v => congrArg BitVec.toNat ((ha hc).1 _ (Nat.mod_lt v (hb hc)))
    roundKey := fun hc i hi => congrArg BitVec.toNat ((ha hc).2 i hi) }

theorem withUnspecified_succeedConfigure (s : State) (box : List BoxEntry) (keys : List Block) (d : Datapath) (n : Nat)
    (p r b : Nat) (seed : Int) :
    (s.withUnspecified box keys d n).succeedConfigure p r b seed =
      (s.succeedConfigure p r b seed).withUnspecified
        (boxContents n b fun j => BitVec.ofNat 4 (digitOf Config.dseqPhase p j))
        (keyContents n r fun i => BitVec.ofNat 16 ((keySchedule Config.ksKdf seed p r).getD i 0)) d (n + 1) := by
  simp only [State.succeedConfigure, State.complete, State.withUnspecified]

/-- CONFIGURE builds the entries below b and below r of both states alike (40_command_config.md R405, R410). -/
theorem specifiedEq_succeedConfigure (s : State) (box : List BoxEntry) (keys : List Block) (d : Datapath) (n : Nat)
    (p r b : Nat) (seed : Int) (hok : checkConfig Config.boxMax p b r = .ok) (hr : r < 2 ^ 8) (hb : b < 2 ^ 16) :
    (s.succeedConfigure p r b seed).SpecifiedEq ((s.withUnspecified box keys d n).succeedConfigure p r b seed) := by
  obtain ⟨-, -, hb1, -, hbmax, -⟩ := checkConfig_ok _ _ _ _ hok
  have hmax : Config.roundsMax = 255 := rfl
  have er := succeedConfigure_activeRounds s p r b seed hr
  have eb := succeedConfigure_activeBox s p r b seed hb
  rw [withUnspecified_succeedConfigure]
  refine ⟨fun _ => by rw [eb]; exact hb1, _, _, _, _, fun _ => ⟨fun j hj => ?_, fun k hk => ?_⟩, rfl⟩
  · rw [eb] at hj
    rw [succeedConfigure_boxram, boxContents_getD n b _ _ j hj (by omega), boxContents_getD _ _ _ _ j hj (by omega)]
  · rw [er] at hk
    rw [succeedConfigure_keyram, keyContents_getD n r _ _ k hk (by omega), keyContents_getD _ _ _ _ k hk (by omega)]

theorem specifiedEq_performOp {s u : State} {f : State → State} (hf : PerformOp f) (h : s.SpecifiedEq u) :
    (f s).SpecifiedEq (f u) := by
  obtain ⟨hb, box, keys, d, n, ha, rfl⟩ := h
  cases hf with
  | complete code out => exact specifiedEq_of_sameConfiguration (sameConfiguration_complete s code out) hb ha d n
  | completeBlock out =>
    exact specifiedEq_of_sameConfiguration
      ((sameConfiguration_complete s _ _).trans (sameConfiguration_releaseDatapath _)) hb ha (unspecDatapath n) (n + 1)
  | succeed p r b seed hok hr hb' => exact specifiedEq_succeedConfigure s box keys d n p r b seed hok hr hb'
  | fail code => exact specifiedEq_of_inactive (s.failConfigure code) _ _ d (n + 1) rfl

theorem specifiedEq_of_doAlike {s u a b : State} (h : s.SpecifiedEq u) (hab : s.DoAlike u a b) : a.SpecifiedEq b := by
  obtain ⟨f, hf, rfl, rfl⟩ := hab
  exact specifiedEq_performOp hf h

/-- Settles O35: the two states agree on what a command reads, so one operation is applied to both. -/
theorem unspecifiedContentsAreNeverObserved : Obligations.UnspecifiedContentsAreNeverObserved := by
  intro i s box keys d n hb ha
  have h : s.SpecifiedEq (s.withUnspecified box keys d n) := ⟨hb, box, keys, d, n, ha, rfl⟩
  obtain ⟨t, _, ht, hu, hab⟩ := exec_alike h.performAgree i
  obtain ⟨hb', box', keys', d', n', ha', rfl⟩ := specifiedEq_of_doAlike h hab
  exact ⟨t, box', keys', d', n', ht, hu, hb', ha', fun r => (withUnspecified_readReg t _ _ _ _ r).symm,
    (withUnspecified_irq t _ _ _ _).symm⟩

/-! ### Along a run (48_host_interface.md R681) -/

@[simp] theorem withUnspecified_readOffset (s : State) (box : List BoxEntry) (keys : List Block) (d : Datapath) (n : Nat)
    (off : Nat) : (s.withUnspecified box keys d n).readOffset off = s.readOffset off := by
  simp [State.readOffset]

theorem withUnspecified_writeCmd (s : State) (box : List BoxEntry) (keys : List Block) (d : Datapath) (n : Nat)
    (w : Word) : (s.withUnspecified box keys d n).writeCmd w = (s.writeCmd w).withUnspecified box keys d n := by
  obtain ⟨hb, h⟩ | ⟨hb, h⟩ := writeCmd_cases s w <;> simp [State.writeCmd, hb] <;> rfl

theorem withUnspecified_writeReg (s : State) (box : List BoxEntry) (keys : List Block) (d : Datapath) (n : Nat)
    (r : Reg) (v : Word) :
    (s.withUnspecified box keys d n).writeReg r v = (s.writeReg r v).withUnspecified box keys d n := by
  cases r
  case cmd => exact withUnspecified_writeCmd s box keys d n v
  all_goals rfl

theorem withUnspecified_writeOffset (s : State) (box : List BoxEntry) (keys : List Block) (d : Datapath) (n : Nat)
    (off : Nat) (v : Word) :
    (s.withUnspecified box keys d n).writeOffset off v = (s.writeOffset off v).withUnspecified box keys d n := by
  unfold State.writeOffset
  split
  · exact withUnspecified_writeReg s box keys d n _ v
  · rfl

theorem withUnspecified_busRead (s t : State) (box : List BoxEntry) (keys : List Block) (d : Datapath) (n : Nat)
    (off : Int) (size : Nat) (h : s.busRead off size = .next t) :
    (s.withUnspecified box keys d n).busRead off size = .next (t.withUnspecified box keys d n) := by
  unfold State.busRead at h ⊢
  rw [withUnspecified_rst, withUnspecified_readOffset]
  split_ifs at h ⊢ <;> cases h <;> rfl

theorem withUnspecified_busWrite (s t : State) (box : List BoxEntry) (keys : List Block) (d : Datapath) (n : Nat)
    (off : Int) (size : Nat) (v : Word) (h : s.busWrite off size v = .next t) :
    (s.withUnspecified box keys d n).busWrite off size v = .next (t.withUnspecified box keys d n) := by
  unfold State.busWrite at h ⊢
  rw [withUnspecified_rst, withUnspecified_writeOffset]
  split_ifs at h ⊢ <;> cases h <;> rfl

theorem sameConfiguration_busRead {s t : State} {off : Int} {size : Nat} (h : s.busRead off size = .next t) :
    s.SameConfiguration t := by
  obtain ⟨r, rfl⟩ := busRead_next s t off size h
  exact sameConfiguration_respond s r

theorem sameConfiguration_busWrite {s t : State} {off : Int} {size : Nat} {v : Word}
    (h : s.busWrite off size v = .next t) : s.SameConfiguration t := by
  obtain ⟨r, rfl⟩ | ⟨-, reg, r, -, rfl⟩ := busWrite_next s t off size v h
  · exact sameConfiguration_respond s r
  · exact (sameConfiguration_writeReg s reg v).trans (sameConfiguration_respond _ r)

theorem engineTurn_specifiedEq {s t u : State} (h : s.SpecifiedEq u) (ht : s.engineTurn = .next t) :
    ∃ w, u.engineTurn = .next w ∧ t.SpecifiedEq w := by
  obtain ⟨hrst, hbusy⟩ : u.rst = s.rst ∧ u.status.busy = s.status.busy := by
    obtain ⟨-, _, _, _, _, -, rfl⟩ := h
    exact ⟨rfl, rfl⟩
  unfold State.engineTurn at ht ⊢
  rw [hrst, hbusy]
  split_ifs at ht ⊢
  · cases ht; exact ⟨u, rfl, h⟩
  · obtain ⟨a, b, hs, hb, hab⟩ := perform_alike h.performAgree
    rw [hs] at ht
    cases ht
    exact ⟨b, hb, specifiedEq_of_doAlike h hab⟩
  · cases ht; exact ⟨u, rfl, h⟩

theorem takeTurn_specifiedEq {s t u : State} (m : Turn) (h : s.SpecifiedEq u) (ht : s.takeTurn m = .next t) :
    ∃ w, u.takeTurn m = .next w ∧ t.SpecifiedEq w := by
  cases m with
  | engine => exact engineTurn_specifiedEq h ht
  | read off size =>
    obtain ⟨hb, box, keys, d, n, ha, rfl⟩ := h
    exact ⟨_, withUnspecified_busRead s t box keys d n off size ht,
      specifiedEq_of_sameConfiguration (sameConfiguration_busRead ht) hb ha d n⟩
  | write off size v =>
    obtain ⟨hb, box, keys, d, n, ha, rfl⟩ := h
    exact ⟨_, withUnspecified_busWrite s t box keys d n off size v ht,
      specifiedEq_of_sameConfiguration (sameConfiguration_busWrite ht) hb ha d n⟩
  | assertReset =>
    obtain ⟨-, box, keys, d, n, -, rfl⟩ := h
    cases ht
    exact ⟨_, rfl, specifiedEq_of_inactive s.assertReset _ _ (unspecDatapath n) (n + 1) rfl⟩
  | releaseReset =>
    obtain ⟨hb, box, keys, d, n, ha, rfl⟩ := h
    cases ht
    exact ⟨_, rfl, specifiedEq_of_sameConfiguration (sameConfiguration_releaseReset s) hb ha d n⟩

theorem step_specifiedEq {s t u : State} (h : s.SpecifiedEq u) (ht : step s = .next t) :
    ∃ w, step u = .next w ∧ t.SpecifiedEq w := by
  rw [step_eq_takeTurn] at ht ⊢
  rw [h.script]
  exact takeTurn_specifiedEq _ (specifiedEq_withScript h s.script.tail) ht

/-- A run that answers a next state takes a first step that does. -/
theorem run_succ_next (k : Nat) (s t : State) (h : Sys2Proof.core.run (k + 1) s = Host.Outcome.next t) :
    ∃ a, step s = .next a ∧ Sys2Proof.core.run k a = Host.Outcome.next t := by
  cases ha : step s with
  | next a => exact ⟨a, rfl, (run_succ k s a ha).symm.trans h⟩
  | fault r =>
    have ha' : Sys2Proof.core.step s = .fault r := ha
    simp only [Host.Core.run, ha'] at h
    cases h
  | refused r =>
    have ha' : Sys2Proof.core.step s = .refused r := ha
    simp only [Host.Core.run, ha'] at h
    cases h

theorem run_specifiedEq (k : Nat) (s t u : State) (h : s.SpecifiedEq u)
    (ht : Sys2Proof.core.run k s = Host.Outcome.next t) :
    ∃ w : State, Sys2Proof.core.run k u = Host.Outcome.next w ∧ t.SpecifiedEq w := by
  induction k generalizing s u with
  | zero => cases ht; exact ⟨u, rfl, h⟩
  | succ k ih =>
    obtain ⟨a, hs, hrun⟩ := run_succ_next k s t ht
    obtain ⟨b, hu, hab⟩ := step_specifiedEq h hs
    rw [run_succ k u b hu]
    exact ih a b hab hrun

/-- Settles O59, by induction on the number of steps. -/
theorem unspecifiedContentsAreNeverObservedAlongARun : Obligations.UnspecifiedContentsAreNeverObservedAlongARun := by
  intro k s t box keys d n hb ha ht
  obtain ⟨_, hu, hb', box', keys', d', n', ha', rfl⟩ := run_specifiedEq k s t _ ⟨hb, box, keys, d, n, ha, rfl⟩ ht
  exact ⟨box', keys', d', n', hu, hb', ha', withUnspecified_observation t box' keys' d' n'⟩

end Sys2Proof.Machine
end

section
/-! CERTIFICATE. The state family, part 7: host accesses do not reach the pending command. -/

namespace Sys2Proof.Machine

/-- `u` has the active configuration, the arrays, PEND, RES and DOUT of `s`, and has drawn as many free values. -/
structure State.EngineEq (s u : State) : Prop extends s.SameConfiguration u where
  pend : u.pend = s.pend
  res : u.status.res = s.status.res
  dout : u.dout = s.dout
  freeCtr : u.freeCtr = s.freeCtr

theorem engineEq_refl (s : State) : s.EngineEq s := ⟨sameConfiguration_refl s, rfl, rfl, rfl, rfl⟩

theorem engineEq_respond (s : State) (r : Response) : s.EngineEq (s.respond r) :=
  ⟨sameConfiguration_respond s r, rfl, rfl, rfl, rfl⟩

theorem State.EngineEq.trans {s t u : State} (h : s.EngineEq t) (h' : t.EngineEq u) : s.EngineEq u :=
  ⟨h.toSameConfiguration.trans h'.toSameConfiguration, h'.pend.trans h.pend, h'.res.trans h.res, h'.dout.trans h.dout,
    h'.freeCtr.trans h.freeCtr⟩

theorem engineEq_withScript {s u : State} (h : s.EngineEq u) (ts us : List Turn) :
    State.EngineEq { s with script := ts } { u with script := us } :=
  ⟨⟨h.cfgValid, h.aprime, h.arounds, h.aboxsize, h.boxram, h.keyram⟩, h.pend, h.res, h.dout, h.freeCtr⟩

theorem State.EngineEq.performAgree {s u : State} (h : s.EngineEq u) : s.PerformAgree u where
  pend := h.pend
  cfgValid := h.cfgValid
  aprime := h.aprime
  arounds := h.arounds
  aboxsize := h.aboxsize
  boxLookup := fun _ v => by rw [State.boxLookup, State.activeBox, h.boxram, h.aboxsize]; rfl
  roundKey := fun _ i _ => by rw [State.roundKey, h.keyram, State.roundKey]

theorem engineEq_performOp {s u : State} {f : State → State} (hf : PerformOp f) (h : s.EngineEq u) :
    (f s).EngineEq (f u) := by
  obtain ⟨⟨hcfg, hp, hr, hb, hbox, hkey⟩, hpend, hres, hdout, hctr⟩ := h
  cases hf with
  | complete code out => exact ⟨⟨hcfg, hp, hr, hb, hbox, hkey⟩, hpend, rfl, by simp [hdout], hctr⟩
  | completeBlock out => exact ⟨⟨hcfg, hp, hr, hb, hbox, hkey⟩, hpend, rfl, rfl, congrArg (· + 1) hctr⟩
  | succeed p r b seed _ _ _ =>
    exact ⟨⟨rfl, rfl, rfl, rfl, by simp [hctr], by simp [hctr]⟩, hpend, rfl, by simp [hdout], congrArg (· + 1) hctr⟩
  | fail code =>
    exact ⟨⟨rfl, rfl, rfl, rfl, by simp [hctr], by simp [hctr]⟩, hpend, rfl, by simp [hdout], congrArg (· + 1) hctr⟩

theorem perform_engineEq {s u : State} (h : s.EngineEq u) :
    ∃ a b, s.perform = .next a ∧ u.perform = .next b ∧ a.EngineEq b := by
  obtain ⟨a, b, hs, hu, f, hf, rfl, rfl⟩ := perform_alike h.performAgree
  exact ⟨_, _, hs, hu, engineEq_performOp hf h⟩

/-! ### Host accesses while a command is pending (20_memory.md R212, 70_reset_and_hazards.md R823) -/

/-- A read or a write, of any size, that begins in the register window. -/
def Turn.isWindowAccess (u : Turn) : Prop :=
  (∃ off size, u = .read off size ∧ 0 ≤ off ∧ off < 256) ∨ (∃ off size v, u = .write off size v ∧ 0 ≤ off ∧ off < 256)

/-- `s` has a command pending, out of reset. -/
def State.isPending (s : State) : Prop := s.rst = false ∧ s.status.busy = true

theorem writeReg_engineEq (s : State) (r : Reg) (v : Word) (h : s.status.busy = true) : s.EngineEq (s.writeReg r v) := by
  obtain ⟨-, hres, hdout, -, -, -, -, -, -, -, -, -, hctr⟩ := writeReg_frame s r v
  exact ⟨sameConfiguration_writeReg s r v, (writeReg_busy s r v h).2, hres, hdout, hctr⟩

theorem isPending_writeReg (s : State) (r : Reg) (v : Word) (h : s.isPending) : (s.writeReg r v).isPending := by
  obtain ⟨-, -, -, -, -, -, -, -, -, hrst, -⟩ := writeReg_frame s r v
  exact ⟨hrst.trans h.1, (writeReg_busy s r v h.2).1⟩

theorem takeTurn_windowAccess (s : State) (u : Turn) (hu : u.isWindowAccess) (h : s.isPending) :
    ∃ t, s.takeTurn u = .next t ∧ t.script = s.script ∧ t.isPending ∧ s.EngineEq t := by
  obtain ⟨off, size, rfl, hw⟩ | ⟨off, size, v, rfl, hw⟩ := hu
  · obtain ⟨r, ht⟩ := busRead_answers_next s off size ((inWindow_iff off).mpr hw)
    exact ⟨_, ht, rfl, h, engineEq_respond s r⟩
  · obtain ⟨t, ht⟩ := busWrite_answers_next s off size v ((inWindow_iff off).mpr hw)
    refine ⟨t, ht, ?_⟩
    obtain ⟨r, rfl⟩ | ⟨-, reg, r, -, rfl⟩ := busWrite_next s t off size v ht
    · exact ⟨rfl, h, engineEq_respond s r⟩
    · obtain ⟨-, -, -, -, -, -, -, -, -, -, hscript, -⟩ := writeReg_frame s reg v
      exact ⟨hscript, isPending_writeReg s reg v h, (writeReg_engineEq s reg v h.2).trans (engineEq_respond _ r)⟩

/-- A run through accesses alone reaches the rest of the script with the command still pending. -/
theorem run_windowAccesses (ts rest : List Turn) (s : State) (hs : s.script = ts ++ rest)
    (hts : ∀ u ∈ ts, u.isWindowAccess) (h : s.isPending) :
    ∃ t : State, Sys2Proof.core.run ts.length s = Host.Outcome.next t ∧ t.script = rest ∧ t.isPending ∧ s.EngineEq t := by
  induction ts generalizing s with
  | nil => exact ⟨s, rfl, hs, h, engineEq_refl s⟩
  | cons u ts ih =>
    obtain ⟨a, hstep, hscript, ha, hsa⟩ :=
      takeTurn_windowAccess { s with script := ts ++ rest } u (hts u List.mem_cons_self) h
    obtain ⟨t, hrun, ht, hpend, hat⟩ := ih a hscript (fun m hm => hts m (List.mem_cons_of_mem u hm)) ha
    refine ⟨t, ?_, ht, hpend, ((engineEq_withScript (engineEq_refl s) _ _).trans hsa).trans hat⟩
    rw [List.length_cons, run_succ ts.length s a ((step_cons s u _ hs).trans hstep)]
    exact hrun

/-- Runs compose. -/
theorem run_add (m n : Nat) (s t : State) (h : Sys2Proof.core.run m s = Host.Outcome.next t) :
    Sys2Proof.core.run (m + n) s = Sys2Proof.core.run n t := by
  induction m generalizing s with
  | zero => cases h; rw [Nat.zero_add]
  | succ m ih =>
    obtain ⟨a, hs, hrun⟩ := run_succ_next m s t h
    rw [Nat.add_right_comm, run_succ (m + n) s a hs]
    exact ih a hrun

/-- One step at the engine's turn performs the pending command. -/
theorem run_engine_pending (s t : State) (hs : s.script = [.engine]) (h : s.isPending)
    (ht : State.perform { s with script := [] } = .next t) : Sys2Proof.core.run 1 s = Host.Outcome.next t := by
  have hstep : step s = .next t := by
    rw [step_cons s _ _ hs, State.takeTurn, engineTurn_pending { s with script := [] } h.1 h.2]
    exact ht
  exact run_succ 0 s t hstep

/-- Settles O54: the accesses leave all that the perform step reads as it was. -/
theorem hostAccessesDoNotReachThePendingCommand : Obligations.HostAccessesDoNotReachThePendingCommand := by
  intro s ts hr hb hts
  obtain ⟨u, hrun, hu, hpend, hsu⟩ :=
    run_windowAccesses ts [.engine] { s with script := ts ++ [.engine] } rfl hts ⟨hr, hb⟩
  obtain ⟨t', t, ht', ht, heq⟩ := perform_engineEq (engineEq_withScript hsu [] [])
  refine ⟨t, t', (run_add ts.length 1 _ u hrun).trans (run_engine_pending u t hu hpend ht),
    run_engine_pending { s with script := [.engine] } t' rfl ⟨hr, hb⟩ ht', heq.dout, heq.res, heq.cfgValid, heq.aprime,
    heq.arounds, heq.aboxsize, ?_⟩
  rw [← heq.boxram, ← heq.keyram]
  exact specifiedAgree_refl t

end Sys2Proof.Machine
end

section
/-! CERTIFICATE. The state family, part 8: the words of the registers, and what an access at each offset does. -/

namespace Sys2Proof.Machine

/-! ### The layout of STATUS (10_state.md R103) -/

/-- STATUS is RES with the four flags set below it one by one. -/
theorem Status_word_eq_concat (st : Status) :
    st.word = ((((st.res.concat st.ovr).concat st.cfgValid).concat st.done).concat st.busy).setWidth 32 := rfl

theorem Status_word_busy (st : Status) : st.word.getLsbD 0 = st.busy := by
  simp [Status_word_eq_concat]

theorem Status_word_done (st : Status) : st.word.getLsbD 1 = st.done := by
  simp [Status_word_eq_concat]

theorem Status_word_cfgValid (st : Status) : st.word.getLsbD 2 = st.cfgValid := by
  simp [Status_word_eq_concat]

theorem Status_word_ovr (st : Status) : st.word.getLsbD 3 = st.ovr := by
  simp [Status_word_eq_concat]

/-- From bit 4 on the word is RES, with 0 where RES has no bit. -/
theorem Status_word_res (st : Status) (k : Nat) : st.word.getLsbD (k + 4) = st.res.getLsbD k := by
  simp only [Status_word_eq_concat, BitVec.getLsbD_setWidth, BitVec.getLsbD_concat_succ, Bool.and_eq_right_iff_imp,
    decide_eq_true_eq]
  intro h
  have := BitVec.lt_of_getLsbD h
  omega

/-- Settles O39: the flags bit by bit, and RES from bit 4 on. -/
theorem statusWordLayout : Obligations.StatusWordLayout := by
  intro s
  refine ⟨Status_word_busy _, Status_word_done _, Status_word_cfgValid _, Status_word_ovr _, ?_, ?_⟩
  · apply BitVec.eq_of_getLsbD_eq
    intro k hk
    simp [State.readReg, hk, Nat.add_comm 4 k, Status_word_res]
  · apply BitVec.eq_of_getLsbD_eq
    intro k hk
    have hres := Status_word_res s.status (4 + k)
    rw [BitVec.getLsbD_of_ge s.status.res _ (by omega), show 4 + k + 4 = 8 + k by omega] at hres
    simp [State.readReg, hres]

/-! ### The words of the other registers (10_state.md R102, R104 to R112) -/

theorem extract_low_setWidth {n : Nat} (x : BitVec n) (hn : n ≤ 32) : (x.setWidth 32).extractLsb' 0 n = x := by
  apply BitVec.eq_of_getLsbD_eq
  intro k hk
  simp [hk, show k < 32 by omega]

theorem extract_high_setWidth {n : Nat} (x : BitVec n) (len : Nat) : (x.setWidth 32).extractLsb' n len = 0#len := by
  apply BitVec.eq_of_getLsbD_eq
  intro k hk
  simp

/-- Settles O58: every register but STATUS and the seed's halves is a field widened to 32 bits. -/
theorem registerWordsCarryTheirFields : Obligations.RegisterWordsCarryTheirFields := by
  intro s
  have field16 : ∀ x : BitVec 16, (x.setWidth 32).extractLsb' 0 16 = x := fun x => extract_low_setWidth x (by omega)
  have field8 : ∀ x : BitVec 8, (x.setWidth 32).extractLsb' 0 8 = x := fun x => extract_low_setWidth x (by omega)
  have above : ∀ {n : Nat} (x : BitVec n) (len : Nat), (x.setWidth 32).extractLsb' n len = 0#len := extract_high_setWidth
  exact ⟨rfl, by simp [State.readReg], above (BitVec.ofBool s.irqEn) 31, field16 _, above s.prime 16, field8 _,
    above s.rounds 24, field16 _, above s.boxsize 16, rfl, rfl, field16 _, above s.din 16, field16 _, above s.dout 16,
    field16 _, above s.aprime 16, field8 _, above s.arounds 24, field16 _, above s.aboxsize 16⟩

/-- Settles O46, register by register. -/
theorem registersAfterReset : Obligations.RegistersAfterReset :=
  ⟨fun r => by cases r <;> rfl, rfl, rfl, rfl⟩

/-! ### Accepted accesses as steps (20_memory.md R201) -/

theorem readReg_withScript (s : State) (ts : List Turn) (r : Reg) :
    State.readReg { s with script := ts } r = s.readReg r := by cases r <;> rfl

theorem readOffset_withScript (s : State) (ts : List Turn) (off : Nat) :
    State.readOffset { s with script := ts } off = s.readOffset off := by
  unfold State.readOffset
  split
  · exact readReg_withScript s ts _
  · rfl

theorem step_read (s : State) (off : Nat) (ts : List Turn) (hr : s.rst = false) (hw : off < 256) (ha : off % 4 = 0)
    (hs : s.script = .read (off : Int) 4 :: ts) :
    step s = .next { s with
      script := ts
      responses := { isRead := true, answer := .accepted, data := s.readOffset off } :: s.responses } := by
  rw [step_cons s _ ts hs, State.takeTurn, busRead_accepted { s with script := ts } off hr hw ha, readOffset_withScript]
  rfl

theorem step_write (s : State) (off : Nat) (v : Word) (ts : List Turn) (hr : s.rst = false) (hw : off < 256)
    (ha : off % 4 = 0) (hs : s.script = .write (off : Int) 4 v :: ts) :
    step s = .next ((State.writeOffset { s with script := ts } off v).respond
      { isRead := false, answer := .accepted, data := 0#32 }) := by
  rw [step_cons s _ ts hs, State.takeTurn, busWrite_accepted { s with script := ts } off v hr hw ha]

theorem step_writeReg (s : State) (r : Reg) (v : Word) (ts : List Turn) (hr : s.rst = false)
    (hs : s.script = .write (regOffset r : Int) 4 v :: ts) :
    step s = .next ((State.writeReg { s with script := ts } r v).respond
      { isRead := false, answer := .accepted, data := 0#32 }) := by
  obtain ⟨hw, ha⟩ := regOffset_aligned r
  rw [step_write s (regOffset r) v ts hr hw ha hs, writeOffset_regOffset]

/-! ### Reads -/

theorem regOffset_le (r : Reg) : regOffset r ≤ 0x30 := by cases r <;> decide

theorem readOffset_above (s : State) (off : Nat) (h : 0x34 ≤ off) : s.readOffset off = 0#32 := by
  cases hreg : regAt off with
  | none => exact readOffset_reserved s off hreg
  | some r =>
    have ho := regAt_some off r hreg
    have hle := regOffset_le r
    omega

/-- A row of the register table of R100 gives a register its own offset. -/
def rowAtOffset (row : Nat × Reg) : Bool := decide (row.1 = regOffset row.2)

/-- Settles O42: the rows of the table are the registers' own offsets, and no register stands from 0x34 on. -/
theorem readsAnswerTheRegisterAndChangeNothing : Obligations.ReadsAnswerTheRegisterAndChangeNothing := by
  intro s ts hr
  refine ⟨fun off r hrow hs => ?_, fun off hlo hhi ha hs => ?_, rfl⟩
  · have hoff : off = regOffset r :=
      of_decide_eq_true (List.all_eq_true.mp (show List.all _ rowAtOffset = true by decide) _ hrow)
    subst hoff
    obtain ⟨hw, ha⟩ := regOffset_aligned r
    rw [step_read s (regOffset r) ts hr hw ha hs, readOffset_regOffset]
  · rw [step_read s off ts hr (by omega) ha hs, readOffset_above s off hlo]

/-! ### Writes without effect (10_state.md R100, R101) -/

theorem writeOffset_above (s : State) (off : Nat) (v : Word) (h : 0x24 ≤ off) : s.writeOffset off v = s := by
  obtain ⟨r, rfl, hw⟩ | ⟨-, hw⟩ := writeOffset_cases s off v
  · rw [hw]
    cases r
    case dout | aprime | arounds | aboxsize => rfl
    all_goals exact absurd h (by decide)
  · exact hw

/-- Settles O41: from 0x24 on stand read-only registers and reserved offsets alone. -/
theorem readOnlyAndReservedOffsetsIgnoreWrites : Obligations.ReadOnlyAndReservedOffsetsIgnoreWrites := by
  intro s off v ts hr hlo hhi ha hs
  rw [step_write s off v ts hr (by omega) ha hs, writeOffset_above _ off v hlo]
  rfl

/-! ### Writes of the read-write registers (10_state.md R101, R104 to R110) -/

/-- The registers that store what is written. -/
def isReadWrite : Reg → Bool
  | .ctrl | .prime | .rounds | .boxsize | .seedLo | .seedHi | .din => true
  | _ => false

/-- The bits of a read-write register's field. -/
def fieldMask : Reg → Word
  | .ctrl => 0x00000001#32
  | .rounds => 0x000000FF#32
  | .seedLo | .seedHi => 0xFFFFFFFF#32
  | _ => 0x0000FFFF#32

/-- Cutting a word to its low bits and widening it again is masking it. -/
theorem setWidth_setWidth_eq_and (v : Word) (k : Nat) (hk : k ≤ 32) :
    (v.setWidth k).setWidth 32 = v &&& BitVec.ofNat 32 (2 ^ k - 1) := by
  have hpow : 2 ^ k ≤ 2 ^ 32 := Nat.pow_le_pow_right (by omega) hk
  apply BitVec.eq_of_toNat_eq
  have hmask : (2 ^ k - 1) % 2 ^ 32 = 2 ^ k - 1 := Nat.mod_eq_of_lt (by omega)
  have hlow : v.toNat % 2 ^ k % 2 ^ 32 = v.toNat % 2 ^ k :=
    Nat.mod_eq_of_lt (lt_of_lt_of_le (Nat.mod_lt _ (Nat.two_pow_pos k)) hpow)
  rw [BitVec.toNat_setWidth, BitVec.toNat_setWidth, BitVec.toNat_and, BitVec.toNat_ofNat, hmask, hlow,
    Nat.and_two_pow_sub_one_eq_mod]

theorem writeReg_readReg_self (s : State) (r : Reg) (v : Word) (h : isReadWrite r = true) :
    (s.writeReg r v).readReg r = v &&& fieldMask r := by
  cases r <;> cases h
  case ctrl => exact (BitVec.and_one_eq_setWidth_ofBool_getLsbD).symm
  case rounds => exact setWidth_setWidth_eq_and v 8 (by omega)
  case prime | boxsize | din => exact setWidth_setWidth_eq_and v 16 (by omega)
  case seedLo | seedHi => exact (BitVec.and_allOnes).symm

/-- Each register reads a field of its own. -/
theorem writeReg_readReg_other (s : State) (r r' : Reg) (v : Word) (h : isReadWrite r = true) (hne : r' ≠ r) :
    (s.writeReg r v).readReg r' = s.readReg r' := by
  cases r <;> cases h
  all_goals cases r' <;> simp [State.writeReg, State.readReg] at hne ⊢

theorem writeReg_readWrite_frame (s : State) (r : Reg) (v : Word) (h : isReadWrite r = true) :
    (s.writeReg r v).status = s.status ∧ (s.writeReg r v).pend = s.pend := by
  cases r <;> cases h <;> exact ⟨rfl, rfl⟩

theorem respond_readReg (s : State) (a : Response) (r : Reg) : (s.respond a).readReg r = s.readReg r := by
  cases r <;> rfl

/-- A row of the table of read-write registers. -/
def rowReadWrite (row : Nat × Reg × Word) : Bool :=
  decide (row.1 = regOffset row.2.1 ∧ isReadWrite row.2.1 = true ∧ row.2.2 = fieldMask row.2.1)

/-- Settles O40: the rows of the table are the read-write registers with their fields' masks. -/
theorem registerWriteChangesThatRegisterAlone : Obligations.RegisterWriteChangesThatRegisterAlone := by
  intro s off r mask v ts hr hrow hs
  obtain ⟨hoff, hrw, hmask⟩ : off = regOffset r ∧ isReadWrite r = true ∧ mask = fieldMask r :=
    of_decide_eq_true (List.all_eq_true.mp (show List.all _ rowReadWrite = true by decide) _ hrow)
  subst hoff hmask
  obtain ⟨hstatus, hpend⟩ := writeReg_readWrite_frame { s with script := ts } r v hrw
  obtain ⟨-, -, -, -, -, -, hbox, hkey, hdata, hrst, hscript, hresp, hctr⟩ := writeReg_frame { s with script := ts } r v
  refine ⟨_, step_writeReg s r v ts hr hs, ?_, fun r' hne => ?_, hstatus, hbox, hkey, hpend, hdata, hrst, hctr, hscript,
    congrArg (_ :: ·) hresp⟩
  · rw [respond_readReg, writeReg_readReg_self _ r v hrw]
  · rw [respond_readReg, writeReg_readReg_other _ r r' v hrw hne, readReg_withScript]

/-! ### Writes of STATUS (10_state.md R103) -/

/-- Clearing DONE and OVR where the written bit is 1 masks bits 1 and 3 of the word. -/
theorem Status_writeOneToClear_word (st : Status) (v : Word) :
    (st.writeOneToClear v).word = st.word &&& ~~~(v &&& 0x0000000A#32) := by
  apply BitVec.eq_of_getLsbD_eq
  intro k hk
  rw [BitVec.getLsbD_and, BitVec.getLsbD_not, BitVec.getLsbD_and]
  obtain rfl | rfl | rfl | rfl | ⟨j, rfl⟩ : k = 0 ∨ k = 1 ∨ k = 2 ∨ k = 3 ∨ ∃ j, k = j + 4 := by
    obtain h | h := Nat.lt_or_ge k 4
    · omega
    · exact .inr (.inr (.inr (.inr ⟨k - 4, by omega⟩)))
  · rw [Status_word_busy, Status_word_busy]
    simp
  · rw [Status_word_done, Status_word_done]
    simp
  · rw [Status_word_cfgValid, Status_word_cfgValid]
    simp
  · rw [Status_word_ovr, Status_word_ovr]
    simp
  · have hmask : (0x0000000A#32).getLsbD (j + 4) = false :=
      Nat.testBit_lt_two_pow (lt_of_lt_of_le (by decide : 10 < 2 ^ 4) (Nat.pow_le_pow_right (by omega) (by omega)))
    rw [Status_word_res, Status_word_res, hmask]
    simp [hk]

/-- Settles O38: the write is an acknowledgement, which masks two bits of the word. -/
theorem statusWriteClearsDoneAndOvrAlone : Obligations.StatusWriteClearsDoneAndOvrAlone :=
  fun s v ts hr hs => ⟨s.status.writeOneToClear v, step_writeReg s .status v ts hr hs,
    Status_writeOneToClear_word s.status v, rfl, rfl, rfl, rfl, rfl⟩

end Sys2Proof.Machine
end

section
/-! CERTIFICATE. The memory family: the byte lanes of a bus word, and the accesses that the FRE does not accept. -/

namespace Sys2Proof.Machine

/-! ### Byte lanes (20_memory.md R202; log 23) -/

/-- Lane 0 is the lowest byte, so appending the lanes from lane 3 down rebuilds the word. -/
theorem wordOfLanes_lanesOfWord (w : Word) : wordOfLanes (lanesOfWord w) = some w := by
  have lanes32 : w.extractLsb' 24 8 ++ w.extractLsb' 16 8 = w.extractLsb' 16 16 :=
    BitVec.extractLsb'_append_extractLsb'_eq_extractLsb' rfl
  have lanes321 : w.extractLsb' 16 16 ++ w.extractLsb' 8 8 = w.extractLsb' 8 24 :=
    BitVec.extractLsb'_append_extractLsb'_eq_extractLsb' rfl
  have lanes3210 : w.extractLsb' 8 24 ++ w.extractLsb' 0 8 = w.extractLsb' 0 32 :=
    BitVec.extractLsb'_append_extractLsb'_eq_extractLsb' rfl
  rw [lanesOfWord, wordOfLanes, lanes32, lanes321, lanes3210, BitVec.extractLsb'_eq_self]

theorem lanesOfWord_getD (w : Word) (k : Nat) (hk : k < 4) :
    (lanesOfWord w).getD k 0#8 = w.extractLsb' (8 * k) 8 := by
  obtain rfl | rfl | rfl | rfl : k = 0 ∨ k = 1 ∨ k = 2 ∨ k = 3 := by omega
  all_goals rfl

/-- Settles O5: the lanes rebuild the word, and the list holds them in order. -/
theorem byteLanesCarryTheWord : Obligations.ByteLanesCarryTheWord :=
  fun w => ⟨wordOfLanes_lanesOfWord w, lanesOfWord_getD w⟩

/-! ### Refused accesses (20_memory.md R204, 60_exceptions.md R740) -/

/-- Settles O43: R204 refuses the access before it asks for rst or for a register. -/
theorem refusedAccessIsABusErrorWithoutEffect : Obligations.RefusedAccessIsABusErrorWithoutEffect := by
  intro s off size v ts hlo hhi hshape
  have hw : inWindow off = true := (inWindow_iff off).mpr ⟨hlo, hhi⟩
  have ha : acceptable off size = false := (acceptable_false_iff off size).mpr hshape
  constructor
  · intro hs
    rw [step_cons s _ ts hs, State.takeTurn, busRead_refused _ off size hw ha, State.respond]
  · intro hs
    rw [step_cons s _ ts hs, State.takeTurn, busWrite_refused _ off size v hw ha, State.respond]

/-! ### Accesses outside the window (20_memory.md R204; log 8) -/

theorem busRead_outside (s : State) (off : Int) (size : Nat) (hw : inWindow off = false) :
    s.busRead off size = .fault (.outsideWindow off) := if_pos hw

theorem busWrite_outside (s : State) (off : Int) (size : Nat) (v : Word) (hw : inWindow off = false) :
    s.busWrite off size v = .fault (.outsideWindow off) := if_pos hw

/-- Settles O44: the window is asked for first, whatever the access's size. -/
theorem accessOutsideTheWindowStops : Obligations.AccessOutsideTheWindowStops := by
  intro s off size v ts hout
  have hw : inWindow off = false := (inWindow_false_iff off).mpr hout
  constructor
  · intro hs
    rw [step_cons s _ ts hs, State.takeTurn, busRead_outside _ off size hw]
  · intro hs
    rw [step_cons s _ ts hs, State.takeTurn, busWrite_outside _ off size v hw]

end Sys2Proof.Machine
end

section
/-! CERTIFICATE. The encoding family, part 1: the fields of a command word, and the decoder and the encoder as inverses
(30_encoding.md R300 to R308). -/

namespace Sys2Proof
open Machine

/-! ### The operands of a command (30_encoding.md R300, R305) -/

/-- `i` with the round index `k` in the place of its own; the seven commands without an index stay as they are. -/
def Instr.withIndex : Instr → Nat → Instr
  | .fround _, k => .fround k
  | .rkey _, k => .rkey k
  | i, _ => i

/-- `i` takes no index (30_encoding.md R305). -/
def Instr.ignoresIdx (i : Instr) : Prop := ∀ k, i.withIndex k = i

@[simp] theorem withIndex_index (i : Instr) : i.withIndex i.index = i := by cases i <;> rfl

/-- The round index is the only operand that well-formedness bounds (30_encoding.md R300). -/
theorem wellFormed_iff (i : Instr) : i.wellFormed = true ↔ i.index < 256 := by
  cases i <;> simp [Instr.wellFormed, Instr.index]

theorem wellFormed_withIndex (i : Instr) (idx : BitVec 8) : (i.withIndex idx.toNat).wellFormed = true := by
  cases i
  case fround | rkey => exact decide_eq_true idx.isLt
  all_goals rfl

theorem opcode_le (i : Instr) : i.opcode ≤ 8 := by cases i <;> simp [Instr.opcode]

/-! ### The opcode map (30_encoding.md R302, R303) -/

theorem decodeOpcode_opcode (i : Instr) (idx : Nat) : decodeOpcode i.opcode idx = .ok (i.withIndex idx) := by
  cases i <;> rfl

theorem exists_opcode_eq (op : Nat) (h : op ≤ 8) : ∃ i : Instr, i.opcode = op := by
  obtain rfl | rfl | rfl | rfl | rfl | rfl | rfl | rfl | rfl :
    op = 0 ∨ op = 1 ∨ op = 2 ∨ op = 3 ∨ op = 4 ∨ op = 5 ∨ op = 6 ∨ op = 7 ∨ op = 8 := by omega
  exacts [⟨.nop, rfl⟩, ⟨.configure, rfl⟩, ⟨.encrypt, rfl⟩, ⟨.decrypt, rfl⟩, ⟨.fround 0, rfl⟩, ⟨.mix, rfl⟩, ⟨.sbox, rfl⟩,
    ⟨.digit, rfl⟩, ⟨.rkey 0, rfl⟩]

/-- A word with both reserved fields 0 and the opcode of `i` decodes to `i` with the word's own index. -/
theorem decode_of_fields (w : Word) (i : Instr) (h1 : rsv1Field w = 0#16) (h0 : rsv0Field w = 0#4)
    (hop : (opField w).toNat = i.opcode) : decode w = .ok (i.withIndex (idxField w).toNat) := by
  rw [decode, if_neg (not_ne_iff.mpr h1), if_neg (not_ne_iff.mpr h0), hop, decodeOpcode_opcode]

/-- What the decoder accepts, field by field. -/
theorem decode_ok_iff_fields (w : Word) (i : Instr) :
    decode w = .ok i ↔ (rsv1Field w = 0#16 ∧ rsv0Field w = 0#4 ∧ (opField w).toNat = i.opcode) ∧
      i.withIndex (idxField w).toNat = i := by
  constructor
  · intro h
    obtain ⟨h1, h0, hop⟩ := decode_ok_fields w i h
    exact ⟨⟨h1, h0, hop⟩, Except.ok.inj ((decode_of_fields w i h1 h0 hop).symm.trans h)⟩
  · rintro ⟨⟨h1, h0, hop⟩, hidx⟩
    rw [decode_of_fields w i h1 h0 hop, hidx]

/-! ### Decoding an encoding (30_encoding.md R308) -/

/-- The opcode stands below the shifted index, so the two add up. -/
theorem encode_toNat (i : Instr) (h : i.wellFormed = true) : (encode i).toNat = i.index * 256 + i.opcode := by
  have hidx := (wellFormed_iff i).mp h
  have hop := opcode_le i
  have hor := Nat.shiftLeft_add_eq_or_of_lt (i := 8) (show i.opcode < 2 ^ 8 by omega) i.index
  rw [encode, BitVec.toNat_or, BitVec.toNat_shiftLeft, BitVec.toNat_ofNat, BitVec.toNat_ofNat,
    Nat.mod_eq_of_lt (show i.index < 2 ^ 32 by omega), Nat.mod_eq_of_lt (show i.opcode < 2 ^ 32 by omega),
    Nat.mod_eq_of_lt (show i.index <<< 8 < 2 ^ 32 by rw [Nat.shiftLeft_eq]; omega), ← hor, Nat.shiftLeft_eq]

theorem opField_encode (i : Instr) (h : i.wellFormed = true) : (opField (encode i)).toNat = i.opcode := by
  have hop := opcode_le i
  rw [opField, BitVec.extractLsb'_toNat, encode_toNat i h, Nat.shiftRight_zero]
  omega

theorem idxField_encode (i : Instr) (h : i.wellFormed = true) : (idxField (encode i)).toNat = i.index := by
  have hidx := (wellFormed_iff i).mp h
  have hop := opcode_le i
  rw [idxField, BitVec.extractLsb'_toNat, encode_toNat i h, Nat.shiftRight_eq_div_pow]
  omega

theorem reservedFields_encode (i : Instr) (h : i.wellFormed = true) :
    rsv0Field (encode i) = 0#4 ∧ rsv1Field (encode i) = 0#16 :=
  Laws.ReservedFieldsZero.indexed_fields i.index i.opcode ((wellFormed_iff i).mp h) (by have := opcode_le i; omega)

/-- Settles O1: the four fields of an encoding are the command's opcode, its index and two zeros. -/
theorem decodeOfEncodeIsTheCommand : Obligations.DecodeOfEncodeIsTheCommand := by
  intro i h
  obtain ⟨h0, h1⟩ := reservedFields_encode i h
  rw [decode_of_fields (encode i) i h1 h0 (opField_encode i h), idxField_encode i h, withIndex_index]

/-- Settles O4: each listed word is the encoding of its command. -/
theorem listedEncodingsDecode : Obligations.ListedEncodingsDecode :=
  have decodes := decodeOfEncodeIsTheCommand
  ⟨decodes .nop rfl, decodes .configure rfl, decodes .encrypt rfl, decodes .decrypt rfl, decodes (.fround 0) rfl,
    decodes .mix rfl, decodes .sbox rfl, decodes .digit rfl, decodes (.rkey 0) rfl, decodes (.rkey 9) rfl⟩

/-! ### Match and mask (30_encoding.md R302) -/

/-- Every bit outside IDX survives the mask 0xFFFF00FF. -/
theorem fields_outsideIdx (w : Word) :
    rsv1Field (w &&& 0xFFFF00FF#32) = rsv1Field w ∧ rsv0Field (w &&& 0xFFFF00FF#32) = rsv0Field w ∧
    opField (w &&& 0xFFFF00FF#32) = opField w := by
  refine ⟨?_, ?_, ?_⟩
  · rw [rsv1Field, BitVec.extractLsb'_and]
    exact BitVec.and_allOnes
  · rw [rsv0Field, BitVec.extractLsb'_and]
    exact BitVec.and_allOnes
  · rw [opField, BitVec.extractLsb'_and]
    exact BitVec.and_allOnes

/-- A word decodes to a command exactly when it is the command's opcode outside IDX and its IDX is the command's index. -/
theorem decode_ok_iff (w : Word) (i : Instr) :
    decode w = .ok i ↔ w &&& 0xFFFF00FF#32 = BitVec.ofNat 32 i.opcode ∧ i.withIndex (idxField w).toNat = i := by
  constructor
  · exact fun h => ⟨decode_ok_outsideIdx w i h, ((decode_ok_iff_fields w i).mp h).2⟩
  · rintro ⟨hmatch, hidx⟩
    obtain ⟨h1, h0, hop⟩ := fields_outsideIdx w
    refine (decode_ok_iff_fields w i).mpr ⟨?_, hidx⟩
    rw [← h1, ← h0, ← hop, hmatch]
    cases i <;> (rw [Instr.opcode]; exact ⟨rfl, rfl, rfl⟩)

theorem decode_ok_iff_of_ignoresIdx (w : Word) (i : Instr) (h : i.ignoresIdx) :
    decode w = .ok i ↔ w &&& 0xFFFF00FF#32 = BitVec.ofNat 32 i.opcode :=
  (decode_ok_iff w i).trans (and_iff_left (h _))

theorem decode_fround_iff (w : Word) (k : Nat) :
    decode w = .ok (.fround k) ↔ w &&& 0xFFFF00FF#32 = 4#32 ∧ k = (idxField w).toNat :=
  (decode_ok_iff w (.fround k)).trans (and_congr_right' (Instr.fround.injEq _ _ ▸ eq_comm))

theorem decode_rkey_iff (w : Word) (k : Nat) :
    decode w = .ok (.rkey k) ↔ w &&& 0xFFFF00FF#32 = 8#32 ∧ k = (idxField w).toNat :=
  (decode_ok_iff w (.rkey k)).trans (and_congr_right' (Instr.rkey.injEq _ _ ▸ eq_comm))

/-- The legal words (30_encoding.md R302, R304). -/
theorem exists_decode_ok_iff (w : Word) :
    (∃ i, decode w = .ok i) ↔ rsv0Field w = 0#4 ∧ rsv1Field w = 0#16 ∧ (opField w).toNat ≤ 8 := by
  constructor
  · rintro ⟨i, h⟩
    obtain ⟨h1, h0, hop⟩ := decode_ok_fields w i h
    exact ⟨h0, h1, hop ▸ opcode_le i⟩
  · rintro ⟨h0, h1, hop⟩
    obtain ⟨i, hi⟩ := exists_opcode_eq _ hop
    exact ⟨_, decode_of_fields w i h1 h0 hi.symm⟩

theorem wellFormed_of_decode (w : Word) (i : Instr) (h : decode w = .ok i) : i.wellFormed = true := by
  rw [← ((decode_ok_iff w i).mp h).2]
  exact wellFormed_withIndex i (idxField w)

/-- The encoding of a decoded command differs from the word at most in an ignored IDX. -/
theorem encode_of_decode (w : Word) (i : Instr) (h : decode w = .ok i) :
    encode i &&& 0xFFFF00FF#32 = w &&& 0xFFFF00FF#32 := by
  have hback : decode (encode i) = .ok i := decodeOfEncodeIsTheCommand i (wellFormed_of_decode w i h)
  rw [decode_ok_outsideIdx w i h, decode_ok_outsideIdx (encode i) i hback]

/-- Settles O2, by the match and the mask of a decoded command. -/
theorem wordsDecodeByTheOpcodeMap : Obligations.WordsDecodeByTheOpcodeMap := by
  intro w
  have plain := decode_ok_iff_of_ignoresIdx w
  exact ⟨exists_decode_ok_iff w, plain .nop fun _ => rfl, plain .configure fun _ => rfl, plain .encrypt fun _ => rfl,
    plain .decrypt fun _ => rfl, decode_fround_iff w, plain .mix fun _ => rfl, plain .sbox fun _ => rfl,
    plain .digit fun _ => rfl, decode_rkey_iff w, fun i h => ⟨wellFormed_of_decode w i h, encode_of_decode w i h⟩⟩

end Sys2Proof
end

section
/-! CERTIFICATE. The encoding family, part 2: a command's meaning does not read the latched word, so an ignored IDX changes
nothing (30_encoding.md R305). -/

namespace Sys2Proof.Machine

/-! ### The latched word (10_state.md R122) -/

/-- `s` with the command word `w` in PEND and every other operand as latched. -/
def State.withWord (s : State) (w : Word) : State := { s with pend := { s.pend with w := w } }

theorem whenConfigured_withWord (s own : State) (w : Word) :
    (s.withWord w).whenConfigured (own.withWord w) = (s.whenConfigured own).withWord w :=
  (apply_ite (State.withWord · w) (s.status.cfgValid = true) own (s.raise .notConfigured)).symm

theorem inRange_withWord (s own : State) (x bound : Nat) (w : Word) :
    (if x ≥ bound then (s.withWord w).raise .indexRange else own.withWord w) =
      (if x ≥ bound then s.raise .indexRange else own).withWord w :=
  (apply_ite (State.withWord · w) (x ≥ bound) (s.raise .indexRange) own).symm

/-- The two branches of CONFIGURE take the same checks, which read PEND but not its word. -/
theorem execConfigure_withWord (s t : State) (w : Word) (h : execConfigure s = .next t) :
    execConfigure (s.withWord w) = .next (t.withWord w) := by
  have hcheck : checkConfig Config.boxMax (s.withWord w).stagedPrime (s.withWord w).stagedBox (s.withWord w).stagedRounds =
    checkConfig Config.boxMax s.stagedPrime s.stagedBox s.stagedRounds := rfl
  rw [execConfigure, hcheck]
  cases h
  split <;> rfl

/-- No command reads the latched word, and every command keeps it (30_encoding.md R301). -/
theorem exec_withWord (i : Instr) (s t : State) (w : Word) (h : exec i s = .next t) :
    exec i (s.withWord w) = .next (t.withWord w) := by
  cases i with
  | configure => exact execConfigure_withWord s t w h
  | nop => cases h; rfl
  | encrypt | decrypt | mix | sbox =>
    cases h
    rw [← whenConfigured_withWord]
    rfl
  | fround idx | digit | rkey idx =>
    cases h
    rw [← whenConfigured_withWord, ← inRange_withWord]
    rfl

theorem exec_pend (i : Instr) (s t : State) (h : exec i s = .next t) : t.pend = s.pend := by
  obtain ⟨code, out, rfl⟩ | ⟨code, out, rfl⟩ | ⟨rfl, hc⟩ := exec_cases i s t h
  · rfl
  · rfl
  · obtain ⟨-, rfl⟩ | ⟨code, -, -, rfl⟩ := execConfigure_next s t hc <;> rfl

/-- The perform step of one command, whatever word it was latched as. -/
theorem perform_withWord (s t : State) (i : Instr) (w : Word) (hd : decode w = .ok i) (h : exec i s = .next t) :
    (s.withWord w).perform = .next { t with pend := { s.pend with w := w } } := by
  rw [perform_ok (s.withWord w) i hd, exec_withWord i s t w h, State.withWord, exec_pend i s t h]

/-! ### Two words that differ in IDX alone -/

theorem shiftedIdx_eq_fields (k : BitVec 8) : (k.setWidth 32 <<< 8 : Word) = 0#16 ++ (k ++ (0#4 ++ 0#4)) := by
  apply BitVec.eq_of_getLsbD_eq
  intro j hj
  simp only [BitVec.getLsbD_append, BitVec.getLsbD_shiftLeft, BitVec.getLsbD_setWidth, BitVec.getLsbD_zero, ite_self]
  obtain h | h | h : j < 8 ∨ (8 ≤ j ∧ j < 16) ∨ 16 ≤ j := by omega
  · simp [h]
  · simp [h, hj, show ¬ j < 8 by omega, show j - 8 < 32 by omega]
  · simp [show ¬ j < 8 by omega, show ¬ j < 16 by omega, show 8 ≤ j - 8 by omega]

/-- A value shifted into IDX is nothing outside IDX. -/
theorem shiftedIdx_outsideIdx (k : BitVec 8) : (k.setWidth 32 <<< 8) &&& 0xFFFF00FF#32 = 0#32 := by
  rw [shiftedIdx_eq_fields, fields_and_outsideIdxMask]
  rfl

/-- Another IDX put into a word leaves it as it was outside IDX. -/
theorem replacedIdx_outsideIdx (w : Word) (k : BitVec 8) :
    (w &&& 0xFFFF00FF#32 ||| (k.setWidth 32 <<< 8)) &&& 0xFFFF00FF#32 = w &&& 0xFFFF00FF#32 := by
  rw [BitVec.and_or_distrib_right, shiftedIdx_outsideIdx, BitVec.and_assoc, BitVec.and_self, BitVec.or_zero]

theorem ignoresIdx_of_opcode (i : Instr) (h : i.opcode ∈ [0, 1, 2, 3, 5, 6, 7]) : i.ignoresIdx := by
  cases i
  case fround | rkey => exact absurd h (by rw [Instr.opcode]; decide)
  all_goals exact fun _ => rfl

/-- Settles O3: both words decode to the command of the opcode, and one run of it gives both next states; even the
contents that the spec leaves unspecified are equal. -/
theorem ignoredIndexGivesTheSameBehaviour : Obligations.IgnoredIndexGivesTheSameBehaviour := by
  refine ⟨rfl, fun s w k op hop hw => ?_⟩
  obtain ⟨i, rfl⟩ := exists_opcode_eq op (by simp only [List.mem_cons, List.not_mem_nil, or_false] at hop; omega)
  have hi := ignoresIdx_of_opcode i hop
  have hd : decode w = .ok i := (decode_ok_iff_of_ignoresIdx w i hi).mpr hw
  have hd' : decode (w &&& 0xFFFF00FF#32 ||| (k.setWidth 32 <<< 8)) = .ok i :=
    (decode_ok_iff_of_ignoresIdx _ i hi).mpr ((replacedIdx_outsideIdx w k).trans hw)
  obtain ⟨t, ht⟩ := exec_answers_next i s
  exact ⟨⟨i, hd, hd'⟩, t, t.boxram, t.keyram, t.datapath, t.freeCtr, perform_withWord s t i w hd ht,
    perform_withWord s t i _ hd' ht, specifiedAgree_refl t⟩

end Sys2Proof.Machine
end

section
/-! CERTIFICATE. The command family, part 1: issue, drop and the perform step (40_command_config.md R400 to R403, R407,
R408). -/

namespace Sys2Proof.Machine

/-! ### The perform step (40_command_config.md R402, R403) -/

/-- The step at a script that begins with the engine's turn. -/
theorem step_engine (s : State) (ts : List Turn) (hs : s.script = .engine :: ts) :
    step s = State.engineTurn { s with script := ts } := step_cons s .engine ts hs

theorem engineTurn_idle (s : State) (h : s.status.busy = false) : s.engineTurn = .next s := by
  rw [State.engineTurn, h]
  exact ite_self _

theorem engineTurn_decoded (s : State) (i : Instr) (hr : s.rst = false) (hb : s.status.busy = true)
    (hd : decode s.pend.w = .ok i) : s.engineTurn = exec i s :=
  (engineTurn_pending s hr hb).trans (perform_ok s i hd)

/-- A completion without a value writes STATUS alone (60_exceptions.md R700). -/
theorem complete_none (s : State) (code : ResultCode) :
    s.complete code none = { s with status := s.status.completed code } := by
  rw [State.complete, Option.getD_none, ite_self]

/-- STATUS after a perform step: a completion, with CFG_VALID as CONFIGURE may have written it (40_command_config.md R402,
R405, R406). -/
theorem perform_status (s t : State) (h : s.perform = .next t) :
    ∃ valid code, t.status = (s.status.withCfgValid valid).completed code := by
  obtain ⟨code, out, rfl⟩ | ⟨code, out, rfl⟩ | ⟨-, hc⟩ := perform_cases s t h
  · exact ⟨s.status.cfgValid, code, rfl⟩
  · exact ⟨s.status.cfgValid, code, rfl⟩
  · obtain ⟨-, rfl⟩ | ⟨code, -, -, rfl⟩ := execConfigure_next s t hc
    · exact ⟨true, .ok, rfl⟩
    · exact ⟨false, code, rfl⟩

theorem perform_completes (s t : State) (h : s.perform = .next t) : t.status.busy = false ∧ t.status.done = true := by
  obtain ⟨valid, code, ht⟩ := perform_status s t h
  rw [ht]
  exact ⟨rfl, rfl⟩

theorem perform_ovr (s t : State) (h : s.perform = .next t) : t.status.ovr = s.status.ovr := by
  obtain ⟨valid, code, ht⟩ := perform_status s t h
  rw [ht]
  rfl

/-- Settles O6: an empty script and a leading engine's turn both give the engine its turn. -/
theorem stepRunsTheDecodedCommand : Obligations.StepRunsTheDecodedCommand := fun s i hr hb hd =>
  ⟨fun hs => (step_empty s hs).trans (engineTurn_decoded s i hr hb hd),
    fun ts hs => (step_engine s ts hs).trans (engineTurn_decoded { s with script := ts } i hr hb hd)⟩

/-- Settles O8, by the same two turns as O6. -/
theorem engineIdleWithoutACommand : Obligations.EngineIdleWithoutACommand := fun s hb =>
  ⟨fun hs => (step_empty s hs).trans (engineTurn_idle s hb),
    fun ts hs => (step_engine s ts hs).trans (engineTurn_idle { s with script := ts } hb)⟩

/-- Settles O11: NOP is a completion without a value. -/
theorem nopCompletes : Obligations.NopCompletes := fun s => congrArg Host.Outcome.next (complete_none s .ok)

/-! ### Illegal words (40_command_config.md R407) -/

/-- The words that decode to Bad (30_encoding.md R303, R304). -/
theorem exists_decode_error_iff (w : Word) :
    (∃ e, decode w = .error e) ↔ 8 < (opField w).toNat ∨ rsv0Field w ≠ 0#4 ∨ rsv1Field w ≠ 0#16 := by
  have hbad : (∃ e, decode w = .error e) ↔ ¬ ∃ i, decode w = .ok i := by cases decode w <;> simp
  rw [hbad, exists_decode_ok_iff]
  have hop := Nat.not_lt (a := 8) (b := (opField w).toNat)
  tauto

/-- Settles O7: the fields of an illegal word make the decoder reject it, and BAD_COMMAND is a completion without a
value. -/
theorem illegalWordCompletesWithBadCommand : Obligations.IllegalWordCompletesWithBadCommand := by
  refine ⟨rfl, rfl, rfl, fun s ts hr hb hs hw => ?_⟩
  obtain ⟨e, he⟩ := (exists_decode_error_iff s.pend.w).mpr hw
  rw [step_engine s ts hs, engineTurn_pending { s with script := ts } hr hb, perform_bad { s with script := ts } e he]
  exact congrArg Host.Outcome.next (complete_none _ .badCommand)

/-! ### Commands without a configuration (40_command_config.md R408) -/

theorem whenConfigured_inactive (s own : State) (hc : s.status.cfgValid = false) :
    s.whenConfigured own = s.raise .notConfigured := by
  rw [State.whenConfigured, hc]
  rfl

/-- NOP and CONFIGURE are the only commands that need no configuration. -/
theorem exec_unconfigured (i : Instr) (s : State) (hop : 2 ≤ i.opcode) (hc : s.status.cfgValid = false) :
    exec i s = .next (s.raise .notConfigured) := by
  cases i
  case nop | configure => exact absurd hop (by simp [Instr.opcode])
  all_goals exact congrArg Host.Outcome.next (whenConfigured_inactive s _ hc)

/-- Settles O10: the seven commands are those of opcode 2 or more, and NOT_CONFIGURED is a completion without a value. -/
theorem unconfiguredCommandsCompleteWithNotConfigured : Obligations.UnconfiguredCommandsCompleteWithNotConfigured := by
  intro s k i hi hc
  have hop : ∀ j ∈ [Instr.encrypt, .decrypt, .fround k, .mix, .sbox, .digit, .rkey k], 2 ≤ j.opcode := by
    simp [Instr.opcode]
  rw [exec_unconfigured i s (hop i hi) hc]
  exact congrArg Host.Outcome.next (complete_none s .notConfigured)

/-! ### Issue and drop (40_command_config.md R400, R401) -/

theorem writeCmd_idle (s : State) (w : Word) (h : s.status.busy = false) : s.writeCmd w = s.issue w := by
  rw [State.writeCmd, h]
  rfl

theorem writeCmd_pending (s : State) (w : Word) (h : s.status.busy = true) : s.writeCmd w = s.drop := if_pos h

/-- Settles O36: an accepted write of CMD while idle is an issue. -/
theorem issueLatchesEveryOperand : Obligations.IssueLatchesEveryOperand := by
  intro s w ts hr hb hs
  rw [step_writeReg s .cmd w ts hr hs, State.writeReg, writeCmd_idle { s with script := ts } w hb]
  rfl

theorem engineTurn_ovr (s t : State) (h : s.engineTurn = .next t) : t.status.ovr = s.status.ovr := by
  obtain ⟨rfl, -⟩ | ⟨-, -, i, hd, he⟩ | ⟨-, -, -, rfl⟩ := engineTurn_next s t h
  · rfl
  · exact perform_ovr s t ((perform_ok s i hd).trans he)
  · rfl

/-- Only a write of STATUS with bit 3 set clears OVR (10_state.md R103). -/
theorem writeReg_ovr (s : State) (r : Reg) (v : Word) (h : s.status.ovr = true) :
    (s.writeReg r v).status.ovr = true ∨ (r = .status ∧ v.getLsbD 3 = true) := by
  cases r
  case cmd =>
    obtain ⟨-, hw⟩ | ⟨-, hw⟩ := writeCmd_cases s v
    · exact .inl (by rw [State.writeReg, hw, drop_status, Status_dropped_ovr])
    · exact .inl (by rw [State.writeReg, hw, issue_status, Status_issued_ovr, h])
  case status =>
    cases hv : v.getLsbD 3
    · exact .inl (by rw [State.writeReg, ackStatus_status, Status_writeOneToClear_ovr, h, hv]; rfl)
    · exact .inr ⟨rfl, rfl⟩
  all_goals exact .inl h

/-- A write that does more than record its response has the displacement and the size of a register
(20_memory.md R201, R204). -/
theorem busWrite_register (s t : State) (off : Int) (size : Nat) (v : Word) (h : s.busWrite off size v = .next t) :
    (∃ r, t = s.respond r) ∨
    (∃ reg r, off = (regOffset reg : Int) ∧ size = 4 ∧ t = (s.writeReg reg v).respond r) := by
  cases hw : inWindow off with
  | false =>
    rw [busWrite_outside s off size v hw] at h
    cases h
  | true =>
    cases ha : acceptable off size with
    | false =>
      rw [busWrite_refused s off size v hw ha] at h
      cases h
      exact .inl ⟨_, rfl⟩
    | true =>
      obtain ⟨hlo, -⟩ := (inWindow_iff off).mp hw
      obtain ⟨-, hsize⟩ := (acceptable_iff off size).mp ha
      exact (busWrite_next s t off size v h).imp_right fun ⟨_, reg, r, ho, ht⟩ => ⟨reg, r, by omega, hsize, ht⟩

/-- The turns that clear OVR (40_command_config.md R401). -/
theorem takeTurn_ovr (s t : State) (u : Turn) (h : s.takeTurn u = .next t) (hs : s.status.ovr = true) :
    t.status.ovr = true ∨ u = .assertReset ∨ (∃ v, u = .write 4 4 v ∧ v.getLsbD 3 = true) := by
  cases u with
  | engine => exact .inl ((engineTurn_ovr s t h).trans hs)
  | read off size =>
    obtain ⟨r, rfl⟩ := busRead_next s t off size h
    exact .inl hs
  | write off size v =>
    obtain ⟨r, rfl⟩ | ⟨reg, r, rfl, rfl, rfl⟩ := busWrite_register s t off size v h
    · exact .inl hs
    · obtain hovr | ⟨rfl, hv⟩ := writeReg_ovr s reg v hs
      · exact .inl hovr
      · exact .inr (.inr ⟨v, rfl, hv⟩)
  | assertReset => exact .inr (.inl rfl)
  | releaseReset => cases h; exact .inl hs

/-- Settles O37: an accepted write of CMD while a command is pending is a drop; and of the turns, two kinds clear OVR. -/
theorem commandWrittenWhileBusyIsDropped : Obligations.CommandWrittenWhileBusyIsDropped := by
  refine ⟨fun s w ts hr hb hs => ?_, fun s t h hset hclear => ?_⟩
  · rw [step_writeReg s .cmd w ts hr hs, State.writeReg, writeCmd_pending { s with script := ts } w hb]
    rfl
  · have hkept : t.status.ovr ≠ true := by rw [hclear]; exact Bool.false_ne_true
    obtain ⟨-, he⟩ | ⟨u, ts, hs, hu⟩ := step_cases s t h
    · exact absurd ((engineTurn_ovr s t he).trans hset) hkept
    · obtain hovr | rfl | ⟨v, rfl, hv⟩ := takeTurn_ovr { s with script := ts } t u hu hset
      · exact absurd hovr hkept
      · exact .inl ⟨ts, hs⟩
      · exact .inr ⟨v, ts, hs, hv⟩

/-- Settles O55: the accesses leave the command pending, and the empty script gives the engine its perform step. -/
theorem pendingCommandIsEventuallyPerformed : Obligations.PendingCommandIsEventuallyPerformed := by
  intro s hr hb hts
  obtain ⟨t, hrun, hscript, ⟨htr, htb⟩, hst⟩ :=
    run_windowAccesses s.script [] s (List.append_nil _).symm hts ⟨hr, hb⟩
  obtain ⟨u, hu⟩ := perform_answers_next t
  obtain ⟨hbusy, hdone⟩ := perform_completes t u hu
  have hstep : step t = .next u := by rw [step_empty t hscript, engineTurn_pending t htr htb, hu]
  exact ⟨t, u, hrun, hscript, hst.pend, htb, hstep, hbusy, hdone⟩

end Sys2Proof.Machine
end

section
/-! CERTIFICATE. The command family, part 2: the primality verdict and CONFIGURE (40_command_config.md R404 to R406, R409,
R410). -/

namespace Sys2Proof.Machine

/-! ### The checks (40_command_config.md R404, R409) -/

theorem isPrime_false_iff (n : Nat) : isPrime n = false ↔ ¬ Nat.Prime n := by
  rw [← isPrime_iff, Bool.not_eq_true]

theorem checkConfig_of_illegalPrime (boxMax p b r : Nat) (h : p < 5 ∨ ¬ Nat.Prime p) :
    checkConfig boxMax p b r = .primeInvalid :=
  if_pos (h.imp_right (isPrime_false_iff p).mpr)

/-- The checks that are left when the prime passes. -/
theorem checkConfig_of_legalPrime (boxMax p b r : Nat) (h5 : 5 ≤ p) (hp : Nat.Prime p) :
    checkConfig boxMax p b r =
      if b = 0 then .boxZero
      else if b > p - 1 ∨ b > boxMax then .boxTooBig
      else if r = 0 then .roundsInvalid
      else .ok :=
  if_neg fun h => h.elim (by omega) fun hn => (isPrime_false_iff p).mp hn hp

/-- The check that is left when the prime and the box size pass. -/
theorem checkConfig_of_legalBox (boxMax p b r : Nat) (h5 : 5 ≤ p) (hp : Nat.Prime p) (hb : b ≠ 0) (hbp : b ≤ p - 1)
    (hbmax : b ≤ boxMax) : checkConfig boxMax p b r = if r = 0 then .roundsInvalid else .ok := by
  rw [checkConfig_of_legalPrime boxMax p b r h5 hp, if_neg hb, if_neg (by omega)]

theorem checkConfig_eq_primeInvalid_iff (boxMax p b r : Nat) :
    checkConfig boxMax p b r = .primeInvalid ↔ ¬ (5 ≤ p ∧ Nat.Prime p) := by
  constructor
  · rintro h ⟨h5, hp⟩
    rw [checkConfig_of_legalPrime boxMax p b r h5 hp] at h
    split_ifs at h
  · exact fun h => checkConfig_of_illegalPrime boxMax p b r ((not_and_or.mp h).imp_left Nat.lt_of_not_le)

/-- Settles O12: trial division decides `Nat.Prime`, and the prime's check is the first. -/
theorem primalityVerdictEqualsTheDefinition : Obligations.PrimalityVerdictEqualsTheDefinition := by
  refine ⟨fun n => (isPrime_iff n).trans Nat.prime_def_lt', fun boxMax p b r => ?_⟩
  have hdef : (5 ≤ p ∧ Nat.Prime p) ↔ (5 ≤ p ∧ ∀ d, 2 ≤ d → d < p → ¬ d ∣ p) :=
    and_congr_right fun h5 => Nat.prime_def_lt'.trans (and_iff_right (by omega))
  rw [checkConfig_eq_primeInvalid_iff, hdef]

/-! ### What CONFIGURE answers (40_command_config.md R405, R406) -/

/-- The checks of CONFIGURE on the latched values. -/
def State.configureCheck (s : State) : ResultCode :=
  checkConfig Config.boxMax s.pend.sp.toNat s.pend.sb.toNat s.pend.sr.toNat

/-- The success of CONFIGURE with the latched values. -/
def State.configured (s : State) : State :=
  s.succeedConfigure s.pend.sp.toNat s.pend.sr.toNat s.pend.sb.toNat s.pend.sseed.toInt

theorem exec_configure_ok (s : State) (h : s.configureCheck = .ok) : exec .configure s = .next s.configured := by
  obtain ⟨t, ht⟩ := exec_answers_next .configure s
  obtain ⟨-, rfl⟩ | ⟨code, hne, hc, -⟩ := execConfigure_next s t ht
  · exact ht
  · exact absurd (hc.symm.trans h) hne

theorem exec_configure_fail (s : State) (h : s.configureCheck ≠ .ok) :
    exec .configure s = .next (s.failConfigure s.configureCheck) := by
  obtain ⟨t, ht⟩ := exec_answers_next .configure s
  obtain ⟨hc, -⟩ | ⟨code, -, rfl, rfl⟩ := execConfigure_next s t ht
  · exact absurd hc h
  · exact ht

/-! ### Failure (40_command_config.md R406) -/

/-- CONFIGURE completes with `code` and discards the active configuration; nothing is said of the arrays but their
depths. -/
def State.ConfigureFailsWith (s : State) (code : BitVec 4) : Prop :=
  ∃ (box : List BoxEntry) (keys : List Block) (n : Nat),
    exec .configure s = .next { s with
      aprime := 0#16
      arounds := 0#8
      aboxsize := 0#16
      boxram := box
      keyram := keys
      freeCtr := n
      status := { s.status with cfgValid := false, res := code, busy := false, done := true } } ∧
    box.length = 4096 ∧ keys.length = 255

theorem configureFailsWith_of_check (s : State) (code : ResultCode) (hne : code ≠ .ok) (h : s.configureCheck = code) :
    s.ConfigureFailsWith code.bits := by
  subst h
  refine ⟨_, _, _, (exec_configure_fail s hne).trans (congrArg Host.Outcome.next (complete_none _ _)), ?_, ?_⟩
  · exact boxContents_length s.freeCtr 0 _
  · exact keyContents_length s.freeCtr 0 _

/-- Settles O14: each clause fixes which of the checks is the first to fail. -/
theorem configureFailureDiscardsTheConfiguration : Obligations.ConfigureFailureDiscardsTheConfiguration := by
  intro s
  have rest := checkConfig_of_legalPrime Config.boxMax s.pend.sp.toNat s.pend.sb.toNat s.pend.sr.toNat
  refine ⟨fun h => ?_, fun h5 hp hb => ?_, fun h5 hp hb hbig => ?_, fun h5 hp hb hbp hbmax hr => ?_⟩
  · exact configureFailsWith_of_check s .primeInvalid (by decide) (checkConfig_of_illegalPrime _ _ _ _ h)
  · exact configureFailsWith_of_check s .boxZero (by decide) ((rest h5 hp).trans (if_pos hb))
  · exact configureFailsWith_of_check s .boxTooBig (by decide)
      ((rest h5 hp).trans ((if_neg hb).trans (if_pos hbig)))
  · exact configureFailsWith_of_check s .roundsInvalid (by decide)
      ((checkConfig_of_legalBox _ _ _ _ h5 hp hb hbp hbmax).trans (if_pos hr))

/-! ### Success (40_command_config.md R405; 41_sequence_sbox.md R452; 42_key_schedule.md R500) -/

/-- The remainder in closed form (41_sequence_sbox.md R452). -/
theorem remainder_eq_pow_mod (p k : Nat) (hp : 2 ≤ p) : remainder p k = 10 ^ k % p := by
  induction k with
  | zero => rw [remainder_zero, pow_zero, Nat.mod_eq_of_lt (by omega)]
  | succ k ih => rw [remainder_succ, ih, Nat.mod_mul_mod, pow_succ]

theorem digitOf_eq (phase p j : Nat) (hp : 2 ≤ p) : digitOf phase p j = 10 * (10 ^ (j + phase) % p) / p := by
  rw [digitOf, remainder_eq_pow_mod p _ hp, Nat.mul_comm]

theorem keysFrom_getD_zero (kdf : Int → Nat → Nat → Nat) (p : Nat) (cur : Int) (i n : Nat) (hn : 0 < n) :
    (keysFrom kdf p cur i n).getD 0 0 = kdf cur p i % p := by
  cases n with
  | zero => omega
  | succ n => rfl

/-- Each key is derived from the one before it (42_key_schedule.md R500). -/
theorem keysFrom_getD_succ (kdf : Int → Nat → Nat → Nat) (p : Nat) (cur : Int) (i n j : Nat) (hj : j + 1 < n) :
    (keysFrom kdf p cur i n).getD (j + 1) 0 = kdf ((keysFrom kdf p cur i n).getD j 0 : Nat) p (i + j + 1) % p := by
  induction n generalizing cur i j with
  | zero => omega
  | succ n ih =>
    rw [keysFrom, List.getD_cons_succ]
    cases j with
    | zero => rw [keysFrom_getD_zero kdf p _ _ n (by omega), List.getD_cons_zero]
    | succ j => rw [ih _ (i + 1) j (by omega), List.getD_cons_succ, Nat.add_right_comm i 1, Nat.add_assoc i j 1]

/-- The state that a successful CONFIGURE answers: a completion without a value, whose active registers are the latched
ones. -/
theorem configured_eq (s : State) :
    s.configured = { s with
      aprime := s.pend.sp
      arounds := s.pend.sr
      aboxsize := s.pend.sb
      boxram := s.configured.boxram
      keyram := s.configured.keyram
      freeCtr := s.configured.freeCtr
      status := { s.status with cfgValid := true, res := 0#4, busy := false, done := true } } := by
  have hp : s.configured.aprime = s.pend.sp := (BitVec.ofNat_toNat 16 s.pend.sp).trans (BitVec.setWidth_eq _)
  have hr : s.configured.arounds = s.pend.sr := (BitVec.ofNat_toNat 8 s.pend.sr).trans (BitVec.setWidth_eq _)
  have hb : s.configured.aboxsize = s.pend.sb := (BitVec.ofNat_toNat 16 s.pend.sb).trans (BitVec.setWidth_eq _)
  rw [← hp, ← hr, ← hb]
  rfl

/-- Settles O13: the checks pass, the entries of the box are the digits, and the keys are chained. -/
theorem configureBuildsTheConfiguration : Obligations.ConfigureBuildsTheConfiguration := by
  intro s p r b hp h5 hb1 hbp hbmax hr1
  have hok : s.configureCheck = .ok :=
    (checkConfig_of_legalBox _ p b r h5 hp (by omega) hbp hbmax).trans (if_neg (by omega))
  have hkey : ∀ i, i < r → readArray s.configured.keyram i = (keySchedule Config.ksKdf s.pend.sseed.toInt p r).getD i 0 :=
    fun i hi => succeedConfigure_key s p r b _ i (by omega) s.pend.sp.isLt hi s.pend.sr.isLt
  refine ⟨s.configured.boxram, s.configured.keyram, s.configured.freeCtr,
    (exec_configure_ok s hok).trans (congrArg Host.Outcome.next (configured_eq s)),
    boxContents_length _ _ _, keyContents_length _ _ _, fun j hj => ?_, ?_, fun i hi => ?_⟩
  · exact (succeedConfigure_box s p r b _ j (by omega) hj hbmax).trans (digitOf_eq 0 p j (by omega))
  · exact (hkey 0 hr1).trans (keysFrom_getD_zero _ p _ 0 r hr1)
  · have hprev : (s.configured.keyram.getD i 0#16).toNat = (keySchedule Config.ksKdf s.pend.sseed.toInt p r).getD i 0 :=
      hkey i (by omega)
    rw [hprev]
    refine (hkey (i + 1) hi).trans ((keysFrom_getD_succ _ p _ 0 r i hi).trans ?_)
    rw [Nat.zero_add]
    rfl

/-! ### Determinism (40_command_config.md R410, 42_key_schedule.md R504) -/

/-- What CONFIGURE builds from given values does not depend on what the state held. -/
theorem succeedConfigure_getD_eq (s s' : State) (p r b : Nat) (seed : Int) (hr : r ≤ Config.roundsMax)
    (hb : b ≤ Config.boxMax) :
    (∀ j, j < b →
      (s.succeedConfigure p r b seed).boxram.getD j 0#4 = (s'.succeedConfigure p r b seed).boxram.getD j 0#4) ∧
    (∀ i, i < r →
      (s.succeedConfigure p r b seed).keyram.getD i 0#16 = (s'.succeedConfigure p r b seed).keyram.getD i 0#16) := by
  constructor
  · intro j hj
    rw [succeedConfigure_boxram, succeedConfigure_boxram, boxContents_getD _ _ _ _ j hj (by omega),
      boxContents_getD _ _ _ _ j hj (by omega)]
  · intro i hi
    rw [succeedConfigure_keyram, succeedConfigure_keyram, keyContents_getD _ _ _ _ i hi (by omega),
      keyContents_getD _ _ _ _ i hi (by omega)]

/-- Settles O15: both states take the same branch; a success builds the same entries, and a failure leaves no active
entry to compare. -/
theorem configureIsDeterministic : Obligations.ConfigureIsDeterministic := by
  intro s s' hsp hsr hsb hseed
  have hcheck : s'.configureCheck = s.configureCheck := by rw [State.configureCheck, ← hsp, ← hsr, ← hsb]; rfl
  by_cases hok : s.configureCheck = .ok
  · obtain ⟨-, -, -, -, hbmax, -⟩ := checkConfig_ok _ _ _ _ hok
    have hr : s.pend.sr.toNat ≤ Config.roundsMax := Nat.le_of_lt_succ s.pend.sr.isLt
    obtain ⟨hbox, hkey⟩ := succeedConfigure_getD_eq s s' s.pend.sp.toNat _ _ s.pend.sseed.toInt hr hbmax
    have hs' : s'.configured =
        s'.succeedConfigure s.pend.sp.toNat s.pend.sr.toNat s.pend.sb.toNat s.pend.sseed.toInt := by
      rw [State.configured, ← hsp, ← hsr, ← hsb, ← hseed]
    refine ⟨_, _, exec_configure_ok s hok, (exec_configure_ok s' (hcheck.trans hok)).trans (congrArg _ hs'), rfl, rfl, rfl,
      rfl, rfl, fun j hj => hbox j ?_, fun i hi => hkey i ?_⟩
    · exact succeedConfigure_activeBox s _ _ _ _ s.pend.sb.isLt ▸ hj
    · exact succeedConfigure_activeRounds s _ _ _ _ s.pend.sr.isLt ▸ hi
  · refine ⟨_, _, exec_configure_fail s hok, exec_configure_fail s' (hcheck ▸ hok), ?_, rfl, rfl, rfl, rfl,
      fun j hj => absurd hj (Nat.not_lt_zero j), fun i hi => absurd hi (Nat.not_lt_zero i)⟩
    rw [hcheck]
    rfl

end Sys2Proof.Machine
end

section
/-! CERTIFICATE. The sequence and box family: the digits of 1/p, and the commands SBOX and DIGIT (41_sequence_sbox.md). What
a command does with an active configuration, and with an index beyond its last one, is said once for SBOX, DIGIT, FROUND and
RKEY. -/

namespace Sys2Proof.Machine

/-! ### The decimal sequence (41_sequence_sbox.md R452 to R454) -/

/-- Settles O16: the remainder held before a step is a power of 10 reduced modulo p. -/
theorem digitClosedForm : Obligations.DigitClosedForm := digitOf_eq

/-- Settles O17: a remainder is below p, so ten times it holds p at most nine times. -/
theorem digitsAreDecimal : Obligations.DigitsAreDecimal := fun phase p j hp =>
  ⟨Nat.le_of_lt_succ (digitOf_lt_ten phase p j hp), remainder_lt p j hp⟩

/-- The powers of 10 in `ZMod p` carry the period over to the remainders. -/
theorem remainder_add_orderOf (p k : Nat) (hp : 2 ≤ p) :
    remainder p (k + orderOf (10 : ZMod p)) = remainder p k := by
  have hpow : ((10 ^ (k + orderOf (10 : ZMod p)) : Nat) : ZMod p) = ((10 ^ k : Nat) : ZMod p) := by
    push_cast
    rw [pow_add, pow_orderOf_eq_one, mul_one]
  rw [remainder_eq_pow_mod p _ hp, remainder_eq_pow_mod p k hp]
  exact (ZMod.natCast_eq_natCast_iff' _ _ p).mp hpow

/-- A divisor of 10 leaves no remainder after the first step of the long division. -/
theorem remainder_succ_of_dvd_ten (p k : Nat) (h : p ∣ 10) : remainder p (k + 1) = 0 :=
  Nat.mod_eq_zero_of_dvd (h.mul_left _)

/-- Settles O18: a digit is a function of the remainder, which has the period; 5 divides 10. -/
theorem digitSequenceIsPeriodic : Obligations.DigitSequenceIsPeriodic := by
  refine ⟨fun p j hp _ => ?_, rfl, fun j => ?_⟩
  · rw [digitOf, digitOf, Nat.add_zero, Nat.add_zero, remainder_add_orderOf p j hp.two_le]
  · rw [digitOf, Nat.add_zero, remainder_succ_of_dvd_ten 5 j (by decide)]

/-! ### Commands with a configuration (40_command_config.md R402, R408) -/

theorem whenConfigured_active (s own : State) (hc : s.status.cfgValid = true) : s.whenConfigured own = own := if_pos hc

/-- A completion with a value writes DOUT and STATUS alone. -/
theorem complete_ok_some (s : State) (v : Block) :
    s.complete .ok (some v) = { s with dout := v, status := s.status.completed .ok } := rfl

/-- A command with an index in range follows its own rule. -/
theorem whenConfigured_inRange (s own : State) (x bound : Nat) (hc : s.status.cfgValid = true) (hx : x < bound) :
    s.whenConfigured (if x ≥ bound then s.raise .indexRange else own) = own :=
  (whenConfigured_active s _ hc).trans (if_neg (Nat.not_le_of_lt hx))

/-- A command with an index out of range raises INDEX_RANGE, whatever its own rule is (41_sequence_sbox.md R461,
42_key_schedule.md R510, 43_mixing_round.md R560). -/
theorem whenConfigured_outOfRange (s own : State) (x bound : Nat) (hc : s.status.cfgValid = true) (hx : bound ≤ x) :
    s.whenConfigured (if x ≥ bound then s.raise .indexRange else own) = s.raise .indexRange :=
  (whenConfigured_active s _ hc).trans (if_pos hx)

/-! ### SBOX and DIGIT (41_sequence_sbox.md R460, R461) -/

theorem exec_sbox_active (s : State) (hc : s.status.cfgValid = true) :
    exec .sbox s = .next (s.complete .ok (some (BitVec.ofNat 16 (s.boxLookup s.valueOperand)))) :=
  congrArg Host.Outcome.next (whenConfigured_active s _ hc)

theorem exec_digit_inRange (s : State) (hc : s.status.cfgValid = true) (hj : s.valueOperand < s.activePrime - 1) :
    exec .digit s = .next (s.complete .ok (some (BitVec.ofNat 16 (s.digitAt s.valueOperand)))) :=
  congrArg Host.Outcome.next (whenConfigured_inRange s _ _ _ hc hj)

/-- The digit of the active prime in closed form, under the machine's DSEQ_PHASE (log 2). -/
theorem digitAt_eq (s : State) (j : Nat) (hp : 2 ≤ s.activePrime) :
    s.digitAt j = 10 * (10 ^ j % s.activePrime) / s.activePrime :=
  digitOf_eq Config.dseqPhase s.activePrime j hp

/-- Settles O20: an index below p − 1 leaves a prime of at least 2, whose digits have the closed form. -/
theorem digitCompletes : Obligations.DigitCompletes := by
  intro s hc hj
  have hp : 2 ≤ s.activePrime := by
    have hpos : 0 < s.activePrime - 1 := Nat.zero_lt_of_lt hj
    omega
  rw [exec_digit_inRange s hc hj, complete_ok_some, digitAt_eq s _ hp]
  rfl

/-- Settles O19: every operand is in range of SBOX. -/
theorem sboxCompletes : Obligations.SboxCompletes := fun s hc =>
  (exec_sbox_active s hc).trans (congrArg Host.Outcome.next (complete_ok_some s _))

/-! ### An index beyond the last one (41_sequence_sbox.md R461, 42_key_schedule.md R510, 43_mixing_round.md R560) -/

/-- Settles O24: the three commands check their index alike, and INDEX_RANGE is a completion without a value. -/
theorem indexOutOfRangeChangesNothingElse : Obligations.IndexOutOfRangeChangesNothingElse := by
  intro s k hc t
  have hraise : s.raise .indexRange = t := complete_none s .indexRange
  refine ⟨fun hk => ⟨?_, ?_⟩, fun hj => ?_⟩
  · exact congrArg Host.Outcome.next ((whenConfigured_outOfRange s _ k _ hc hk).trans hraise)
  · exact congrArg Host.Outcome.next ((whenConfigured_outOfRange s _ k _ hc hk).trans hraise)
  · exact congrArg Host.Outcome.next ((whenConfigured_outOfRange s _ s.valueOperand _ hc hj).trans hraise)

end Sys2Proof.Machine
end

section
/-! CERTIFICATE. The key schedule family: the length, the bound and the dependencies of the round keys for every KS_KDF, and
the command RKEY (42_key_schedule.md). -/

namespace Sys2Proof.Machine

/-! ### The round keys (42_key_schedule.md R500, R502, R503) -/

/-- The running key is read by the first step alone. -/
theorem keysFrom_congr_first (kdf : Int → Nat → Nat → Nat) (p : Nat) (cur cur' : Int) (i n : Nat)
    (h : kdf cur p i % p = kdf cur' p i % p) : keysFrom kdf p cur i n = keysFrom kdf p cur' i n := by
  cases n with
  | zero => rfl
  | succ n => rw [keysFrom, keysFrom, h]

/-- Asking for more keys does not change the first ones. -/
theorem take_keysFrom_add (kdf : Int → Nat → Nat → Nat) (p : Nat) (cur : Int) (i n m : Nat) :
    (keysFrom kdf p cur i (n + m)).take n = keysFrom kdf p cur i n := by
  induction n generalizing cur i with
  | zero => rfl
  | succ n ih => rw [Nat.add_right_comm, keysFrom, keysFrom, List.take_succ_cons, ih]

/-- Settles O21: a key of the list stands at one of its positions, and there it is a remainder modulo p. -/
theorem roundKeysLieBelowThePrime : Obligations.RoundKeysLieBelowThePrime := by
  refine fun kdf seed p r hp => ⟨keysFrom_length kdf p seed 0 r, fun k hk => ?_⟩
  obtain ⟨j, hj, rfl⟩ := List.getElem_of_mem hk
  rw [← List.getD_eq_getElem _ 0 hj]
  exact keySchedule_getD_lt kdf seed p r j hp

/-- Settles O22: the schedule is the chain of keys from round 0 on, with the seed as its running key. -/
theorem roundKeyDependencies : Obligations.RoundKeyDependencies := by
  refine fun kdf p => ⟨fun seed r hr => ?_, fun seed r i hi => ?_, fun seed seed' r h => ?_, fun seed r n => ?_⟩
  · exact keysFrom_getD_zero kdf p seed 0 r hr
  · have hchain := keysFrom_getD_succ kdf p seed 0 r i hi
    rwa [Nat.zero_add] at hchain
  · exact keysFrom_congr_first kdf p seed seed' 0 r h
  · exact take_keysFrom_add kdf p seed 0 r n

/-! ### RKEY (42_key_schedule.md R510) -/

theorem exec_rkey_inRange (s : State) (i : Nat) (hc : s.status.cfgValid = true) (hi : i < s.activeRounds) :
    exec (.rkey i) s = .next (s.complete .ok (some (BitVec.ofNat 16 (s.roundKey i)))) :=
  congrArg Host.Outcome.next (whenConfigured_inRange s _ i _ hc hi)

/-- A round key as a block is its KEYRAM entry. -/
theorem ofNat_roundKey (s : State) (i : Nat) : BitVec.ofNat 16 (s.roundKey i) = s.keyram.getD i 0#16 :=
  (BitVec.ofNat_toNat 16 (s.keyram.getD i 0#16)).trans (BitVec.setWidth_eq _)

/-- Settles O23: the index is in range, and the key goes out as it stands in KEYRAM. -/
theorem rkeyCompletes : Obligations.RkeyCompletes := by
  intro s i hc hi
  rw [exec_rkey_inRange s i hc hi, ofNat_roundKey, complete_ok_some]
  rfl

end Sys2Proof.Machine
end

section
/-! CERTIFICATE. The mixing family: the range of Mix and its dependence on the operand modulo p, and the commands MIX and FROUND
(43_mixing_round.md). -/

namespace Sys2Proof.Machine

/-! ### The values of Mix (43_mixing_round.md R551, R552) -/

theorem mixStage3_lt (p d : Nat) (hp : 0 < p) : mixStage3 p d < p := Nat.mod_lt _ hp

/-- The polynomial of stage 3 grows with the digit, so 9 bounds it. -/
theorem mixStage3_le_of_digit (p d : Nat) (hd : d < 10) : mixStage3 p d ≤ 787 :=
  calc mixStage3 p d
    _ ≤ d ^ 3 + 5 * d + 13 := Nat.mod_le _ p
    _ ≤ 9 ^ 3 + 5 * 9 + 13 := by gcongr <;> exact Nat.le_of_lt_succ hd

/-- The exact values of stage 3 on the ten digits, before the reduction (43_mixing_round.md R552). -/
theorem stage3Polynomial_mem_of_digit :
    ∀ d < 10, d ^ 3 + 5 * d + 13 ∈ [13, 19, 31, 55, 97, 163, 259, 391, 565, 787] := by decide

/-- The box of an active configuration is built, and no index leaves it: what it answers is a decimal digit. -/
theorem boxLookup_lt_ten (s : State) (hs : s.Inv) (hc : s.status.cfgValid = true) (v : Nat) : s.boxLookup v < 10 := by
  have hidx : v % s.activeBox < s.activeBox := Nat.mod_lt v (hs.boxLegal hc).1
  rw [State.boxLookup, hs.boxBuilt hc _ hidx]
  exact digitOf_lt_ten _ _ _ (hs.primeLegal hc).1.two_le

/-- Settles O27: stage 3 sees nothing but the ten digits. -/
theorem mixTakesTenSmallValues : Obligations.MixTakesTenSmallValues := by
  intro s hs hc x
  have hd := boxLookup_lt_ten s hs hc (mixStage1 s.activePrime x)
  refine ⟨mixStage3_lt _ _ (hs.primeLegal hc).1.pos, mixStage3_le_of_digit _ _ hd, ?_⟩
  exact List.mem_map_of_mem (stage3Polynomial_mem_of_digit _ hd)

/-! ### Reduction of the operand (43_mixing_round.md R558, R561) -/

/-- Stage 1 is an exact polynomial before its reduction, so it respects congruence modulo p (R554). -/
theorem mixStage1_congr {p x y : Nat} (h : x ≡ y [MOD p]) : mixStage1 p x = mixStage1 p y :=
  ((h.pow 3).add (h.mul_left 7)).add_right 11

/-- Settles O28: stage 1 is the one reader of the operand, and the round function adds the key before it reduces. -/
theorem mixReducesItsOperand : Obligations.MixReducesItsOperand := by
  refine fun s => ⟨fun x => ?_, fun h h' i hh => ?_⟩
  · rw [State.mixValue, State.mixValue, mixStage1_congr (Nat.mod_modEq x s.activePrime)]
  · have hsum : (h.toNat + s.roundKey i) % s.activePrime = (h'.toNat + s.roundKey i) % s.activePrime :=
      Nat.ModEq.add_right (s.roundKey i) hh
    rw [State.roundValue, State.roundValue, hsum]

/-! ### MIX and FROUND (43_mixing_round.md R560, R561) -/

theorem exec_mix_active (s : State) (hc : s.status.cfgValid = true) :
    exec .mix s = .next (s.complete .ok (some (BitVec.ofNat 16 (s.mixValue s.valueOperand)))) :=
  congrArg Host.Outcome.next (whenConfigured_active s _ hc)

theorem exec_fround_inRange (s : State) (i : Nat) (hc : s.status.cfgValid = true) (hi : i < s.activeRounds) :
    exec (.fround i) s = .next (s.complete .ok (some (BitVec.ofNat 16 (s.roundValue s.halfOperand i)))) :=
  congrArg Host.Outcome.next (whenConfigured_inRange s _ i _ hc hi)

/-- DIN[7:0] as a number. -/
theorem halfOperand_toNat (s : State) : s.halfOperand.toNat = s.pend.din.toNat % 256 :=
  BitVec.extractLsb'_toNat 0 8 s.pend.din

/-- Settles O25: MIX takes the whole operand through the three stages. -/
theorem mixCompletes : Obligations.MixCompletes := fun s hc =>
  (exec_mix_active s hc).trans (congrArg Host.Outcome.next (complete_ok_some s _))

/-- Settles O26: the index is in range, and Mix takes the reduced sum of the low half and the round key. -/
theorem froundCompletes : Obligations.FroundCompletes := by
  intro s i hc hi
  rw [exec_fround_inRange s i hc hi, complete_ok_some, State.roundValue, halfOperand_toNat]
  rfl

end Sys2Proof.Machine
end

section
/-! CERTIFICATE. The block cipher family, part 1: the datapath in numbers, and the commands ENCRYPT and DECRYPT
(44_block_cipher.md R600 to R606, R610, R611). -/

namespace Sys2Proof.Machine

/-! ### The halves as numbers (44_block_cipher.md R600, R605, R606) -/

/-- L and R as numbers. -/
def Datapath.halves (d : Datapath) : Nat × Nat := (d.left.toNat, d.right.toNat)

theorem halves_loadBlock (d : Datapath) (blk : Block) :
    (loadBlock d blk).halves = (blk.toNat / 256, blk.toNat % 256) := by
  have hblk := blk.isLt
  have hleft : (blk.toNat >>> 8) % 2 ^ 8 = blk.toNat / 256 := by
    rw [Nat.shiftRight_eq_div_pow]
    omega
  rw [Datapath.halves, loadBlock, BitVec.extractLsb'_toNat, hleft, BitVec.extractLsb'_toNat, Nat.shiftRight_zero]

theorem assembleBlock_eq_ofNat (d : Datapath) : assembleBlock d = BitVec.ofNat 16 (d.halves.1 * 256 + d.halves.2) := by
  have hleft := d.left.isLt
  have hright := d.right.isLt
  apply BitVec.eq_of_toNat_eq
  rw [assembleBlock, BitVec.toNat_append, ← Nat.shiftLeft_add_eq_or_of_lt hright, Nat.shiftLeft_eq,
    BitVec.toNat_ofNat, Datapath.halves, Nat.mod_eq_of_lt (by omega)]

/-- Only FV[7:0] enters the XOR, which is the reduction modulo 256 (44_block_cipher.md R606). -/
theorem xor_roundRegister_toNat (h : Half) (v : Nat) :
    (h ^^^ (roundRegister v).extractLsb' 0 8).toNat = (h.toNat ^^^ v) % 256 := by
  have hfv : ((roundRegister v).extractLsb' 0 8).toNat = v % 2 ^ 8 := by
    rw [BitVec.extractLsb'_toNat, roundRegister, BitVec.toNat_ofNat, Nat.shiftRight_zero]
    omega
  rw [BitVec.toNat_xor, hfv, show 256 = 2 ^ 8 from rfl, Nat.xor_mod_two_pow, Nat.mod_eq_of_lt h.isLt]

/-! ### The rounds as folds (44_block_cipher.md R601 to R604) -/

/-- The round function of a half given as a number (43_mixing_round.md R556). -/
def State.roundNumber (s : State) (h i : Nat) : Nat := s.mixValue ((h + s.roundKey i) % s.activePrime)

theorem roundValue_eq_roundNumber (s : State) (h : Half) (i : Nat) : s.roundValue h i = s.roundNumber h.toNat i := rfl

/-- An encryption round on the halves as numbers (44_block_cipher.md R601). -/
def encStep (f : Nat → Nat → Nat) (lr : Nat × Nat) (i : Nat) : Nat × Nat := (lr.2, (lr.1 ^^^ f lr.2 i) % 256)

/-- A decryption round on the halves as numbers (44_block_cipher.md R603). -/
def decStep (f : Nat → Nat → Nat) (lr : Nat × Nat) (i : Nat) : Nat × Nat := ((lr.2 ^^^ f lr.1 i) % 256, lr.1)

theorem halves_encRound (s : State) (rc : Nat) (d : Datapath) :
    (encRound s.roundValue rc d).halves = encStep s.roundNumber d.halves rc := by
  rw [Datapath.halves, encRound, xor_roundRegister_toNat, roundValue_eq_roundNumber, encStep, Datapath.halves]

theorem halves_decRound (s : State) (rc : Nat) (d : Datapath) :
    (decRound s.roundValue rc d).halves = decStep s.roundNumber d.halves rc := by
  rw [Datapath.halves, decRound, xor_roundRegister_toNat, roundValue_eq_roundNumber, decStep, Datapath.halves]

theorem halves_encRounds (s : State) (rc n : Nat) (d : Datapath) :
    (encRounds s.roundValue rc n d).halves = (List.range' rc n).foldl (encStep s.roundNumber) d.halves := by
  induction n generalizing rc d with
  | zero => rfl
  | succ n ih => rw [encRounds, ih, halves_encRound, List.range'_succ, List.foldl_cons]

theorem halves_decRounds (s : State) (n : Nat) (d : Datapath) :
    (decRounds s.roundValue n d).halves = (List.range n).reverse.foldl (decStep s.roundNumber) d.halves := by
  induction n generalizing d with
  | zero => rfl
  | succ n ih => rw [decRounds, ih, halves_decRound, List.range_succ, List.reverse_concat, List.foldl_cons]

theorem encBlock_eq_foldl (s : State) (blk : Block) :
    let halves := (List.range s.activeRounds).foldl (encStep s.roundNumber) (blk.toNat / 256, blk.toNat % 256)
    s.encBlock blk = BitVec.ofNat 16 (halves.1 * 256 + halves.2) := by
  rw [State.encBlock, assembleBlock_eq_ofNat, halves_encRounds, halves_loadBlock, List.range_eq_range']

theorem decBlock_eq_foldl (s : State) (blk : Block) :
    let halves := (List.range s.activeRounds).reverse.foldl (decStep s.roundNumber) (blk.toNat / 256, blk.toNat % 256)
    s.decBlock blk = BitVec.ofNat 16 (halves.1 * 256 + halves.2) := by
  rw [State.decBlock, assembleBlock_eq_ofNat, halves_decRounds, halves_loadBlock]

/-! ### ENCRYPT and DECRYPT (44_block_cipher.md R610, R611) -/

theorem exec_encrypt_active (s : State) (hc : s.status.cfgValid = true) :
    exec .encrypt s = .next (s.complete .ok (some (s.encBlock s.blockOperand))).releaseDatapath :=
  congrArg Host.Outcome.next (whenConfigured_active s _ hc)

theorem exec_decrypt_active (s : State) (hc : s.status.cfgValid = true) :
    exec .decrypt s = .next (s.complete .ok (some (s.decBlock s.blockOperand))).releaseDatapath :=
  congrArg Host.Outcome.next (whenConfigured_active s _ hc)

/-- A block command writes DOUT and STATUS, and leaves the working registers unspecified (10_state.md R123). -/
theorem releaseDatapath_complete_ok_some (s : State) (v : Block) :
    (s.complete .ok (some v)).releaseDatapath = { s with
      dout := v
      datapath := unspecDatapath s.freeCtr
      freeCtr := s.freeCtr + 1
      status := s.status.completed .ok } := rfl

/-- Settles O29: the value in DOUT is the fold of the rounds over the halves as numbers. -/
theorem encryptCompletes : Obligations.EncryptCompletes := by
  intro s hc
  refine ⟨unspecDatapath s.freeCtr, s.freeCtr + 1, ?_⟩
  rw [exec_encrypt_active s hc, releaseDatapath_complete_ok_some, encBlock_eq_foldl]
  rfl

/-- Settles O30, as O29 with the mirrored rounds. -/
theorem decryptCompletes : Obligations.DecryptCompletes := by
  intro s hc
  refine ⟨unspecDatapath s.freeCtr, s.freeCtr + 1, ?_⟩
  rw [exec_decrypt_active s hc, releaseDatapath_complete_ok_some, decBlock_eq_foldl]
  rfl

end Sys2Proof.Machine
end

section
/-! CERTIFICATE. The block cipher family, part 2: the round trip, the two permutations, and what the block functions
read (44_block_cipher.md R607 to R609, R612). -/

namespace Sys2Proof.Machine

/-! ### The rounds undone, last first (44_block_cipher.md R607) -/

/-- The XOR cancels, whatever the round function answers. -/
theorem decRound_encRound (fr : Half → Nat → Nat) (rc : Nat) (d : Datapath) :
    (decRound fr rc (encRound fr rc d)).left = d.left ∧ (decRound fr rc (encRound fr rc d)).right = d.right := by
  refine ⟨?_, rfl⟩
  simp only [decRound, encRound, BitVec.xor_assoc, BitVec.xor_self, BitVec.xor_zero]

/-- The last encryption round split off, which is the first that decryption undoes. -/
theorem encRounds_succ_last (fr : Half → Nat → Nat) (rc n : Nat) (d : Datapath) :
    encRounds fr rc (n + 1) d = encRound fr (rc + n) (encRounds fr rc n d) := by
  induction n generalizing rc d with
  | zero => rfl
  | succ n ih => rw [encRounds, ih, encRounds, Nat.add_right_comm, Nat.add_assoc]

theorem decRounds_encRounds (fr : Half → Nat → Nat) (n : Nat) (d : Datapath) :
    assembleBlock (decRounds fr n (encRounds fr 0 n d)) = assembleBlock d := by
  induction n with
  | zero => rfl
  | succ n ih =>
    obtain ⟨hleft, hright⟩ := decRound_encRound fr n (encRounds fr 0 n d)
    calc assembleBlock (decRounds fr (n + 1) (encRounds fr 0 (n + 1) d))
      _ = assembleBlock (decRounds fr n (decRound fr n (encRound fr n (encRounds fr 0 n d)))) := by
        rw [encRounds_succ_last, Nat.zero_add, decRounds]
      _ = assembleBlock (decRounds fr n (encRounds fr 0 n d)) :=
        decRounds_congr fr fr n _ _ hleft hright fun _ _ _ => rfl
      _ = assembleBlock d := ih

/-! ### Load and assembly are inverse (44_block_cipher.md R600, R605) -/

theorem loadBlock_assembleBlock (d d' : Datapath) :
    (loadBlock d (assembleBlock d')).left = d'.left ∧ (loadBlock d (assembleBlock d')).right = d'.right :=
  ⟨BitVec.extractLsb'_append_eq_left, BitVec.extractLsb'_append_eq_right⟩

theorem assembleBlock_loadBlock (d : Datapath) (blk : Block) : assembleBlock (loadBlock d blk) = blk := by
  rw [assembleBlock_eq_ofNat, halves_loadBlock, Nat.div_add_mod', BitVec.ofNat_toNat, BitVec.setWidth_eq]

/-! ### The laws (44_block_cipher.md R607, R608) -/

/-- Settles O31: Dec loads the halves that Enc assembled and undoes its rounds. -/
theorem decryptionUndoesEncryption : Obligations.DecryptionUndoesEncryption := by
  intro s blk
  obtain ⟨hleft, hright⟩ :=
    loadBlock_assembleBlock s.datapath (encRounds s.roundValue 0 s.activeRounds (loadBlock s.datapath blk))
  calc s.decBlock (s.encBlock blk)
    _ = assembleBlock (decRounds s.roundValue s.activeRounds
          (encRounds s.roundValue 0 s.activeRounds (loadBlock s.datapath blk))) :=
      decRounds_congr _ _ _ _ _ hleft hright fun _ _ _ => rfl
    _ = assembleBlock (loadBlock s.datapath blk) := decRounds_encRounds _ _ _
    _ = blk := assembleBlock_loadBlock _ _

/-- Settles O32: the blocks are finitely many, so Enc, which Dec undoes, reaches all of them. -/
theorem ciphersArePermutations : Obligations.CiphersArePermutations := by
  intro s
  have hdec : Function.LeftInverse s.decBlock s.encBlock := decryptionUndoesEncryption s
  have hsurj : Function.Surjective s.encBlock := Finite.surjective_of_injective hdec.injective
  have henc : Function.LeftInverse s.encBlock s.decBlock := hdec.rightInverse_of_surjective hsurj
  exact ⟨⟨hdec.injective, hsurj⟩, ⟨henc.injective, hdec.surjective⟩, henc, hdec⟩

/-! ### What the block functions read (44_block_cipher.md R609, R612) -/

/-- `s` with CFG_VALID set and `q` latched. -/
def State.activated (s : State) (q : Pend) : State := { s with pend := q, status := s.status.withCfgValid true }

theorem encBlock_activated (s : State) (q : Pend) (blk : Block) : (s.activated q).encBlock blk = s.encBlock blk := rfl

theorem decBlock_activated (s : State) (q : Pend) (blk : Block) : (s.activated q).decBlock blk = s.decBlock blk := rfl

/-- CFG_VALID and PEND are nothing to the block functions, so of what a perform step reads the rest suffices. -/
theorem encBlock_decBlock_congr {s u : State} (hp : u.aprime = s.aprime) (hr : u.arounds = s.arounds)
    (hb : u.aboxsize = s.aboxsize) (hbox : ∀ v, u.boxLookup v = s.boxLookup v)
    (hkey : ∀ i, i < s.activeRounds → u.roundKey i = s.roundKey i) (blk : Block) :
    u.encBlock blk = s.encBlock blk ∧ u.decBlock blk = s.decBlock blk := by
  have h : (s.activated s.pend).PerformAgree (u.activated s.pend) :=
    ⟨rfl, rfl, hp, hr, hb, fun _ => hbox, fun _ => hkey⟩
  have henc := h.encBlock rfl blk
  have hdec := h.decBlock rfl blk
  rw [encBlock_activated, encBlock_activated] at henc
  rw [decBlock_activated, decBlock_activated] at hdec
  exact ⟨henc, hdec⟩

/-- Settles O34: a lookup in the box reduces its index below b, and the rounds use the keys below r. -/
theorem ciphersReadTheActiveConfigurationAlone : Obligations.CiphersReadTheActiveConfigurationAlone := by
  intro s s' hp hr hb hpos hbox hkey blk
  have hlookup : ∀ v, s.boxLookup v = s'.boxLookup v := fun v => by
    rw [State.boxLookup, State.boxLookup, ← show s.activeBox = s'.activeBox from congrArg BitVec.toNat hb]
    exact congrArg BitVec.toNat (hbox _ (Nat.mod_lt v hpos))
  have hround : s.activeRounds = s'.activeRounds := congrArg BitVec.toNat hr
  exact encBlock_decBlock_congr hp hr hb hlookup (fun i hi => congrArg BitVec.toNat (hkey i (hround ▸ hi))) blk

/-- No block is chained to an earlier one: what keeps the configuration keeps Dec (44_block_cipher.md R609). -/
theorem decBlock_of_sameConfiguration {s t : State} (h : s.SameConfiguration t) (blk : Block) :
    t.decBlock blk = s.decBlock blk := by
  have hbox : ∀ v, t.boxLookup v = s.boxLookup v := fun v => by
    rw [State.boxLookup, State.activeBox, h.boxram, h.aboxsize, State.boxLookup, State.activeBox]
  have hkey : ∀ i, t.roundKey i = s.roundKey i := fun i => by rw [State.roundKey, h.keyram, State.roundKey]
  exact (encBlock_decBlock_congr h.aprime h.arounds h.aboxsize hbox (fun i _ => hkey i) blk).2

/-- `s` with `blk` as the latched block operand (10_state.md R122). -/
def State.withOperand (s : State) (blk : Block) : State := { s with pend := { s.pend with din := blk } }

theorem sameConfiguration_withOperand (s : State) (blk : Block) : s.SameConfiguration (s.withOperand blk) :=
  ⟨rfl, rfl, rfl, rfl, rfl, rfl⟩

theorem sameConfiguration_completeBlock (s : State) (v : Block) :
    s.SameConfiguration (s.complete .ok (some v)).releaseDatapath :=
  (sameConfiguration_complete s .ok (some v)).trans (sameConfiguration_releaseDatapath _)

theorem exec_encrypt_dout (s : State) (hc : s.status.cfgValid = true) :
    ∃ t, exec .encrypt s = .next t ∧ s.SameConfiguration t ∧ t.dout = s.encBlock s.pend.din :=
  ⟨_, exec_encrypt_active s hc, sameConfiguration_completeBlock s _, rfl⟩

theorem exec_decrypt_dout (s : State) (hc : s.status.cfgValid = true) :
    ∃ t, exec .decrypt s = .next t ∧ t.dout = s.decBlock s.pend.din ∧ t.status.res = 0#4 :=
  ⟨_, exec_decrypt_active s hc, rfl, rfl⟩

/-- Settles O33: ENCRYPT keeps the active configuration, so the DECRYPT after it undoes the same rounds. -/
theorem encryptThenDecryptRestoresTheBlock : Obligations.EncryptThenDecryptRestoresTheBlock := by
  intro s hc
  obtain ⟨t, ht, hconf, henc⟩ := exec_encrypt_dout s hc
  have hkept : s.SameConfiguration (t.withOperand t.dout) := hconf.trans (sameConfiguration_withOperand t t.dout)
  obtain ⟨u, hu, hdec, hres⟩ := exec_decrypt_dout (t.withOperand t.dout) (hkept.cfgValid.trans hc)
  refine ⟨t, u, ht, hu, ?_, hres⟩
  calc u.dout
    _ = (t.withOperand t.dout).decBlock t.dout := hdec
    _ = s.decBlock (s.encBlock s.pend.din) := by rw [decBlock_of_sameConfiguration hkept, henc]
    _ = s.pend.din := decryptionUndoesEncryption s s.pend.din

end Sys2Proof.Machine
end

section
/-! CERTIFICATE. The host interface family: the text codec (48_host_interface.md R683 to R685; log 21), and the end of a run
(R681; logs 28 and 29). -/

namespace Sys2Proof.Machine

/-! ### One packed chunk (48_host_interface.md R683, R684) -/

/-- The chunk packs as the datapath assembles its halves. -/
theorem packChars_eq_ofNat (hi lo : Half) : packChars hi lo = BitVec.ofNat 16 (hi.toNat * 256 + lo.toNat) :=
  assembleBlock_eq_ofNat { left := hi, right := lo, rc := 0#8, fv := 0#10 }

theorem unpackChars_packChars (hi lo : Half) :
    unpackChars (packChars hi lo) = if lo = 0#8 then [hi] else [hi, lo] := by
  have hhigh : (packChars hi lo).extractLsb' 8 8 = hi := BitVec.extractLsb'_append_eq_left
  have hlow : (packChars hi lo).extractLsb' 0 8 = lo := BitVec.extractLsb'_append_eq_right
  rw [unpackChars, hhigh, hlow]

/-! ### The blocks of a message (48_host_interface.md R683) -/

theorem length_textEncrypt (enc : Block → Block) (m : List Half) :
    (textEncrypt enc m).length = (m.length + 1) / 2 := by
  induction m using textEncrypt.induct with
  | case1 => rfl
  | case2 hi => simp [textEncrypt]
  | case3 hi lo rest ih =>
    simp only [textEncrypt, List.length_cons, ih]
    omega

theorem textEncrypt_getD (enc : Block → Block) (m : List Half) (k : Nat) (hk : k < (m.length + 1) / 2) :
    (textEncrypt enc m).getD k 0#16 = enc (packChars (m.getD (2 * k) 0#8) (m.getD (2 * k + 1) 0#8)) := by
  induction m using textEncrypt.induct generalizing k with
  | case1 => simp at hk
  | case2 hi =>
    obtain rfl : k = 0 := by simpa using hk
    rfl
  | case3 hi lo rest ih =>
    cases k with
    | zero => rfl
    | succ k => exact ih k (by simp only [List.length_cons] at hk; omega)

/-- Settles O57, by induction on the message two characters at a time. -/
theorem codecPacksTwoCharactersToABlock : Obligations.CodecPacksTwoCharactersToABlock := fun enc m =>
  ⟨length_textEncrypt enc m, fun k hk => by rw [textEncrypt_getD enc m k hk, packChars_eq_ofNat]⟩

/-! ### The round trip of the codec (48_host_interface.md R685) -/

/-- Whether the codec gives back the character `ci.1` at index `ci.2`. -/
def survivesCodec (ci : Half × Nat) : Bool := !(decide (ci.2 % 2 = 1) && decide (ci.1 = 0#8))

theorem survivesCodec_even (c : Half) (n : Nat) (hn : n % 2 = 0) : survivesCodec (c, n) = true := by
  simp [survivesCodec, hn]

theorem survivesCodec_odd (c : Half) (n : Nat) (hn : n % 2 = 1) : survivesCodec (c, n) = !decide (c = 0#8) := by
  simp [survivesCodec, hn]

theorem survivesCodec_iff (ci : Half × Nat) : survivesCodec ci = true ↔ (ci.2 % 2 = 1 → ci.1 ≠ 0#8) := by
  simp [survivesCodec, imp_iff_not_or]

/-- Each chunk gives back its high byte, whose index is even, and its low byte, whose index is odd, unless that is 0. -/
theorem textDecrypt_textEncrypt (enc dec : Block → Block) (hinv : ∀ blk, dec (enc blk) = blk) (m : List Half)
    (n : Nat) (hn : n % 2 = 0) :
    textDecrypt dec (textEncrypt enc m) = ((m.zipIdx n).filter survivesCodec).map Prod.fst := by
  induction m using textEncrypt.induct generalizing n with
  | case1 => rfl
  | case2 hi => simp [textEncrypt, textDecrypt, hinv, unpackChars_packChars, survivesCodec_even hi n hn]
  | case3 hi lo rest ih =>
    have hhigh := survivesCodec_even hi n hn
    have hlow := survivesCodec_odd lo (n + 1) (by omega)
    have hrest := ih (n + 1 + 1) (by omega)
    obtain rfl | hz := eq_or_ne lo 0#8
    · simp [textEncrypt, textDecrypt, hinv, unpackChars_packChars, hhigh, hlow, hrest]
    · simp [textEncrypt, textDecrypt, hinv, unpackChars_packChars, hhigh, hlow, hrest, hz]

/-- A filter that drops a character shortens the message. -/
theorem filter_survivesCodec_eq_self_iff (m : List Half) :
    (m.zipIdx.filter survivesCodec).map Prod.fst = m ↔ ∀ ci ∈ m.zipIdx, survivesCodec ci = true := by
  constructor
  · intro h
    have hlen : (m.zipIdx.filter survivesCodec).length = m.zipIdx.length := by
      rw [← List.length_map Prod.fst, h, List.length_zipIdx]
    exact List.length_filter_eq_length_iff.mp hlen
  · intro h
    rw [List.filter_eq_self.mpr h, List.zipIdx_map_fst]

theorem forall_survivesCodec_iff (m : List Half) :
    (∀ ci ∈ m.zipIdx, survivesCodec ci = true) ↔ ∀ i, i < m.length → i % 2 = 1 → m.getD i 0#8 ≠ 0#8 := by
  rw [List.forall_mem_zipIdx']
  refine forall₂_congr fun i hi => ?_
  rw [survivesCodec_iff, List.getD_eq_getElem m 0#8 hi]

/-- Settles O56: the codec sees the block functions only through `decryptionUndoesEncryption`. -/
theorem codecDropsZeroCharactersAtOddIndexes : Obligations.CodecDropsZeroCharactersAtOddIndexes := by
  intro s m
  have htrip : textDecrypt s.decBlock (textEncrypt s.encBlock m) = (m.zipIdx.filter survivesCodec).map Prod.fst :=
    textDecrypt_textEncrypt s.encBlock s.decBlock (decryptionUndoesEncryption s) m 0 rfl
  exact ⟨htrip, by rw [htrip, filter_survivesCodec_eq_self_iff, forall_survivesCodec_iff]⟩

/-! ### The end of a run (48_host_interface.md R681) -/

theorem runOver_iff (s : State) :
    s.runOver = true ↔ s.status.busy = false ∧ ∀ u ∈ s.script, u = .engine ∨ u = .releaseReset := by
  simp only [State.runOver, Bool.and_eq_true, List.all_eq_true, Bool.not_eq_true', isHostMove_false_iff]
  exact and_comm

theorem observation_withScript (s : State) (ts : List Turn) :
    State.observation { s with script := ts } = s.observation := rfl

theorem observation_releaseReset (s : State) : s.releaseReset.observation = s.observation := rfl

/-- What a step can do once the run is over: take a turn of the idle engine, or release rst. -/
theorem step_of_runOver (s t : State) (hs : s.runOver = true) (h : step s = .next t) :
    t = { s with script := s.script.tail } ∨ t = State.releaseReset { s with script := s.script.tail } := by
  obtain ⟨hb, hturns⟩ := (runOver_iff s).mp hs
  have hturn : s.script.headD .engine = .engine ∨ s.script.headD .engine = .releaseReset := by
    cases hscript : s.script with
    | nil => exact .inl rfl
    | cons u ts => exact hturns u (by simp [hscript])
  rw [step_eq_takeTurn] at h
  obtain hu | hu := hturn
  · have hidle := engineTurn_idle { s with script := s.script.tail } hb
    rw [hu, State.takeTurn, hidle] at h
    cases h
    exact .inl rfl
  · rw [hu] at h
    cases h
    exact .inr rfl

/-- Settles O60: neither turn that is left writes STATUS, a register or the record of responses. -/
theorem finishedRunKeepsItsObservation : Obligations.FinishedRunKeepsItsObservation := by
  refine ⟨runOver_iff, fun s t hs h => ?_⟩
  obtain ⟨hb, hturns⟩ := (runOver_iff s).mp hs
  have hrest : ∀ u ∈ s.script.tail, u = .engine ∨ u = .releaseReset := fun u hu => hturns u (List.mem_of_mem_tail hu)
  obtain rfl | rfl := step_of_runOver s t hs h
  · exact ⟨(runOver_iff _).mpr ⟨hb, hrest⟩, observation_withScript s _⟩
  · exact ⟨(runOver_iff _).mpr ⟨hb, hrest⟩, (observation_releaseReset _).trans (observation_withScript s _)⟩

end Sys2Proof.Machine
end

section
/-! CERTIFICATE. The exceptions family: the result code of a command, the interrupt output, and the engine and the bus while
rst is asserted (60_exceptions.md R720, R730, R740 to R742; 70_reset_and_hazards.md R800). -/

namespace Sys2Proof.Machine

/-! ### The checks of a command in their order (60_exceptions.md R730) -/

/-- The one check of DIGIT, FROUND and RKEY (41_sequence_sbox.md R461, 42_key_schedule.md R510, 43_mixing_round.md R560). -/
def indexCheck (x bound : Nat) : ResultCode := if bound ≤ x then .indexRange else .ok

/-- The command's own checks, the third item of R730's order; OK, the fourth, when they pass. -/
def State.ownCheck (s : State) (i : Instr) : ResultCode :=
  match i with
  | .configure => s.configureCheck
  | .digit => indexCheck s.valueOperand (s.activePrime - 1)
  | .fround k | .rkey k => indexCheck k s.activeRounds
  | _ => .ok

/-- The result of a legal command: NOT_CONFIGURED, the second item of R730's order, comes before the command's own checks. -/
def State.resultCode (s : State) (i : Instr) : ResultCode :=
  if 2 ≤ i.opcode ∧ s.status.cfgValid = false then .notConfigured else s.ownCheck i

theorem exec_configure_res (s t : State) (h : exec .configure s = .next t) : t.status.res = s.configureCheck.bits := by
  by_cases hok : s.configureCheck = .ok
  · rw [exec_configure_ok s hok] at h
    cases h
    rw [hok]
    rfl
  · rw [exec_configure_fail s hok] at h
    cases h
    rfl

theorem whenConfigured_indexed_res (s : State) (out : Option Block) (x bound : Nat) (hc : s.status.cfgValid = true) :
    (s.whenConfigured (if x ≥ bound then s.raise .indexRange else s.complete .ok out)).status.res =
      (indexCheck x bound).bits := by
  rw [whenConfigured_active s _ hc, indexCheck]
  split <;> rfl

theorem exec_res_active (i : Instr) (s t : State) (hc : s.status.cfgValid = true) (h : exec i s = .next t) :
    t.status.res = (s.ownCheck i).bits := by
  cases i with
  | configure => exact exec_configure_res s t h
  | nop => cases h; rfl
  | encrypt | decrypt | mix | sbox =>
    cases h
    rw [whenConfigured_active s _ hc]
    rfl
  | fround k | digit | rkey k =>
    cases h
    exact whenConfigured_indexed_res s _ _ _ hc

theorem exec_res (i : Instr) (s t : State) (h : exec i s = .next t) : t.status.res = (s.resultCode i).bits := by
  by_cases hn : 2 ≤ i.opcode ∧ s.status.cfgValid = false
  · rw [exec_unconfigured i s hn.1 hn.2] at h
    cases h
    rw [State.resultCode, if_pos hn]
    rfl
  · rw [State.resultCode, if_neg hn]
    obtain rfl | rfl | ⟨hop, -⟩ := opcode_cases i
    · cases h; rfl
    · exact exec_configure_res s t h
    · exact exec_res_active i s t ((Bool.not_eq_false _).mp (not_and.mp hn hop)) h

/-! ### The codes of the checks (60_exceptions.md R701) -/

/-- The checks of CONFIGURE with the definition of a prime number in the place of the trial division
(40_command_config.md R404, R409). -/
theorem checkConfig_bits (boxMax p b r : Nat) :
    (checkConfig boxMax p b r).bits =
      if p < 5 ∨ ¬ Nat.Prime p then 1#4
      else if b = 0 then 2#4
      else if p - 1 < b ∨ boxMax < b then 3#4
      else if r = 0 then 4#4
      else 0#4 := by
  simp only [checkConfig, isPrime_false_iff, apply_ite ResultCode.bits]
  rfl

theorem indexCheck_bits (x bound : Nat) : (indexCheck x bound).bits = if bound ≤ x then 7#4 else 0#4 :=
  apply_ite ResultCode.bits (bound ≤ x) .indexRange .ok

/-- The command's own checks by its opcode: at most one clause is that of the command. -/
theorem ownCheck_bits (i : Instr) (s : State) (idx : Nat) (hidx : i.withIndex idx = i) :
    (s.ownCheck i).bits =
      if i.opcode = 7 ∧ s.activePrime - 1 ≤ s.valueOperand then 7#4
      else if (i.opcode = 4 ∨ i.opcode = 8) ∧ s.activeRounds ≤ idx then 7#4
      else if i.opcode ≠ 1 then 0#4
      else s.configureCheck.bits := by
  cases i with
  | fround k | rkey k =>
    cases hidx
    simp [State.ownCheck, Instr.opcode, indexCheck_bits]
  | digit => simp [State.ownCheck, Instr.opcode, indexCheck_bits]
  | nop | configure | encrypt | decrypt | mix | sbox => simp [State.ownCheck, Instr.opcode, ResultCode.bits]

/-! ### The perform step's result (60_exceptions.md R730) -/

/-- The result code of a perform step, in R730's order. -/
def State.performResult (s : State) : BitVec 4 :=
  if rsv1Field s.pend.w ≠ 0#16 ∨ rsv0Field s.pend.w ≠ 0#4 ∨ 8 < (opField s.pend.w).toNat then 6#4
  else if 2 ≤ (opField s.pend.w).toNat ∧ s.status.cfgValid = false then 5#4
  else if (opField s.pend.w).toNat = 7 ∧ s.activePrime - 1 ≤ s.valueOperand then 7#4
  else if ((opField s.pend.w).toNat = 4 ∨ (opField s.pend.w).toNat = 8) ∧
    s.activeRounds ≤ (idxField s.pend.w).toNat then 7#4
  else if (opField s.pend.w).toNat ≠ 1 then 0#4
  else s.configureCheck.bits

theorem performResult_illegal (s : State) (e : BadWord) (h : decode s.pend.w = .error e) :
    s.performResult = ResultCode.badCommand.bits := by
  have hbad := (exists_decode_error_iff s.pend.w).mp ⟨e, h⟩
  exact if_pos (by tauto)

theorem performResult_legal (s : State) (i : Instr) (h : decode s.pend.w = .ok i) :
    s.performResult = (s.resultCode i).bits := by
  obtain ⟨⟨h1, h0, hop⟩, hidx⟩ := (decode_ok_iff_fields s.pend.w i).mp h
  have hle := opcode_le i
  have hlegal : ¬ (rsv1Field s.pend.w ≠ 0#16 ∨ rsv0Field s.pend.w ≠ 0#4 ∨ 8 < i.opcode) := by
    rintro (h | h | h)
    exacts [h h1, h h0, by omega]
  rw [State.performResult, hop, if_neg hlegal, ← ownCheck_bits i s _ hidx, State.resultCode,
    apply_ite ResultCode.bits, ResultCode.bits]

theorem perform_res (s t : State) (h : s.perform = .next t) : t.status.res = s.performResult := by
  cases hd : decode s.pend.w with
  | ok i => rw [performResult_legal s i hd, exec_res i s t ((perform_ok s i hd).symm.trans h)]
  | error e =>
    rw [perform_bad s e hd] at h
    cases h
    exact (performResult_illegal s e hd).symm

/-- Settles O9: the perform step is a completion, and its code is that of the first check that fails. -/
theorem resultCodeIsTheFirstThatApplies : Obligations.ResultCodeIsTheFirstThatApplies := by
  intro s ts hr hb hs op idx p b
  obtain ⟨t, ht⟩ := perform_answers_next { s with script := ts }
  obtain ⟨hbusy, hdone⟩ := perform_completes _ t ht
  have hstep : step s = .next t := by rw [step_engine s ts hs, engineTurn_pending { s with script := ts } hr hb, ht]
  refine ⟨t, hstep, hbusy, hdone, perform_ovr { s with script := ts } t ht, ?_⟩
  rw [perform_res _ t ht, State.performResult, State.configureCheck, checkConfig_bits]
  rfl

/-! ### The interrupt output (60_exceptions.md R720, R741, R742) -/

theorem irq_of_done (s : State) (h : s.status.done = true) : s.irq = s.irqEn := by
  rw [State.irq, h, Bool.and_true]

theorem irq_of_not_done (s : State) (h : s.status.done = false) : s.irq = false := by
  rw [State.irq, h, Bool.and_false]

/-- Every command sets DONE and keeps CTRL. -/
theorem exec_done_irqEn (i : Instr) (s t : State) (h : exec i s = .next t) :
    t.status.done = true ∧ t.irqEn = s.irqEn := by
  obtain ⟨code, out, rfl⟩ | ⟨code, out, rfl⟩ | ⟨-, hc⟩ := exec_cases i s t h
  · exact ⟨rfl, rfl⟩
  · exact ⟨rfl, rfl⟩
  · obtain ⟨-, rfl⟩ | ⟨code, -, -, rfl⟩ := execConfigure_next s t hc <;> exact ⟨rfl, rfl⟩

/-- Settles O45: a completion sets DONE; an issue clears it, and so does an acknowledgement. -/
theorem interruptFollowsCompletion : Obligations.InterruptFollowsCompletion := by
  refine ⟨fun s => rfl, fun i s => ?_, fun s w => irq_of_not_done _ rfl, fun s v hv => irq_of_not_done _ ?_⟩
  · obtain ⟨t, ht⟩ := exec_answers_next i s
    obtain ⟨hdone, hen⟩ := exec_done_irqEn i s t ht
    exact ⟨t, ht, (irq_of_done t hdone).trans hen, hen⟩
  · rw [ackStatus_status, Status_writeOneToClear_done, hv, Bool.not_true, Bool.and_false]

/-! ### While rst is asserted (60_exceptions.md R740, 70_reset_and_hazards.md R800) -/

theorem engineTurn_inReset (s : State) (hr : s.rst = true) : s.engineTurn = .next s := if_pos hr

/-- How the FRE answers an access to the window while rst is asserted (log 25). -/
def answerInReset (off : Int) (size : Nat) : Answer := if off % 4 = 0 ∧ size = 4 then .heldInReset else .busError

theorem answerInReset_acceptable (off : Int) (size : Nat) (ha : acceptable off size = true) :
    answerInReset off size = .heldInReset := if_pos ((acceptable_iff off size).mp ha)

theorem answerInReset_refused (off : Int) (size : Nat) (ha : acceptable off size = false) :
    answerInReset off size = .busError :=
  if_neg (not_and_or.mpr ((acceptable_false_iff off size).mp ha))

theorem busRead_inReset (s : State) (off : Int) (size : Nat) (hr : s.rst = true) (hw : inWindow off = true) :
    s.busRead off size = .next (s.respond { isRead := true, answer := answerInReset off size, data := 0#32 }) := by
  cases ha : acceptable off size with
  | false => rw [busRead_refused s off size hw ha, answerInReset_refused off size ha]
  | true => simp [State.busRead, hw, ha, hr, answerInReset_acceptable off size ha]

theorem busWrite_inReset (s : State) (off : Int) (size : Nat) (v : Word) (hr : s.rst = true) (hw : inWindow off = true) :
    s.busWrite off size v = .next (s.respond { isRead := false, answer := answerInReset off size, data := 0#32 }) := by
  cases ha : acceptable off size with
  | false => rw [busWrite_refused s off size v hw ha, answerInReset_refused off size ha]
  | true => simp [State.busWrite, hw, ha, hr, answerInReset_acceptable off size ha]

/-- Settles O48: the engine asks for rst before BUSY, and the bus before it reads or writes a register. -/
theorem nothingHappensWhileResetIsHeld : Obligations.NothingHappensWhileResetIsHeld := by
  intro s ts hr
  refine ⟨fun hs => ?_, fun hs => ?_, fun off size hlo hhi hs => ?_, fun off size v hlo hhi hs => ?_⟩
  · exact (step_empty s hs).trans (engineTurn_inReset s hr)
  · exact (step_engine s ts hs).trans (engineTurn_inReset { s with script := ts } hr)
  · exact (step_cons s _ ts hs).trans
      (busRead_inReset { s with script := ts } off size hr ((inWindow_iff off).mpr ⟨hlo, hhi⟩))
  · exact (step_cons s _ ts hs).trans
      (busWrite_inReset { s with script := ts } off size v hr ((inWindow_iff off).mpr ⟨hlo, hhi⟩))

end Sys2Proof.Machine
end

section
/-! CERTIFICATE. The reset family: what the assertion of rst leaves in every register, and the first command after reset
(70_reset_and_hazards.md R800, R801). -/

namespace Sys2Proof.Machine

/-! ### The assertion of rst (70_reset_and_hazards.md R800) -/

theorem readReg_assertReset (s : State) (r : Reg) : s.assertReset.readReg r = State.reset.readReg r := by
  cases r <;> rfl

/-- Settles O47: the turn is the reset event at the state whose script is the rest. -/
theorem resetTakesEveryRegisterToItsValue : Obligations.ResetTakesEveryRegisterToItsValue := fun s ts hs =>
  ⟨State.assertReset { s with script := ts }, step_cons s .assertReset ts hs, readReg_assertReset _, rfl,
    irq_of_not_done _ rfl, rfl, rfl, rfl⟩

/-! ### The first command after reset (70_reset_and_hazards.md R801) -/

/-- The engine's turn at the command issued in the reset state, whose own script is empty. -/
theorem step_firstCommand (w : Word) (i : Instr) (hd : decode w = .ok i) :
    step { State.reset.issue w with script := [.engine] } = exec i (State.reset.issue w) :=
  (step_engine _ [] rfl).trans (engineTurn_decoded (State.reset.issue w) i rfl rfl hd)

/-- The staged prime is 0 after reset, so CONFIGURE fails its first check. -/
theorem configureFailsWith_firstCommand (w : Word) : (State.reset.issue w).ConfigureFailsWith 1#4 := by
  have hprime : (State.reset.issue w).pend.sp.toNat < 5 := show 0 < 5 by decide
  exact (configureFailureDiscardsTheConfiguration (State.reset.issue w)).1 (.inl hprime)

/-- Settles O49: NOP asks for nothing, CONFIGURE finds the prime 0, and the other commands find no configuration. -/
theorem firstCommandAfterReset : Obligations.FirstCommandAfterReset := by
  intro w i hd
  rw [step_firstCommand w i hd]
  obtain rfl | rfl | ⟨hop, -⟩ := opcode_cases i
  · exact ⟨_, nopCompletes _, rfl, rfl, rfl, rfl⟩
  · obtain ⟨box, keys, n, hexec, -, -⟩ := configureFailsWith_firstCommand w
    exact ⟨_, hexec, rfl, rfl, rfl, rfl⟩
  · have hnop : i ≠ .nop := by rintro rfl; exact absurd hop (by decide)
    have hconfigure : i ≠ .configure := by rintro rfl; exact absurd hop (by decide)
    refine ⟨_, exec_unconfigured i _ hop rfl, rfl, rfl, rfl, ?_⟩
    rw [if_neg hnop, if_neg hconfigure]
    rfl

end Sys2Proof.Machine
end
